-- ==== Sys2Proof/Word.lean ====
section
/-! DEFINITION. The words of KBIRT: the widths of 00_scope.md R7 and 10_state.md R23 to R32, as bit vectors. -/

namespace Sys2Proof

/-- A frame byte, an event vector, a counter of TXB, a distance (8 bits). -/
abbrev Byte := BitVec 8

/-- An ADC gain sample, `ADC_W = 10` bits (R7). -/
abbrev Sample := BitVec 10

/-- A host register, the CRC, the watchdog counter, a calibration entry (16 bits, R32). -/
abbrev Word := BitVec 16

/-- A word address of the host register space, `h_addr` (7 bits, R30, R60). -/
abbrev Addr := BitVec 7

/-- The host transaction word `W` of R81: `we` in bit 23, `addr` in bits 22:16, `data` in bits 15:0. -/
abbrev HostWord := BitVec 24

/-- The receive frame buffer's shape: `FRAME_LEN = 12` bytes (R7, R88). -/
abbrev Frame := Vector Byte 12

/-- A calibration table's shape: `CAL_N = 14` entries (R7, R180). -/
abbrev CalTable := Vector Word 14

end Sys2Proof
end

