-- ==== Sys2Proof/Syntax.lean ====
section
/-! DEFINITION. The operations of KBIRT (R80): one constructor for each row of spec/opcode_table.json, and the input
vector of one cycle (R30, R279). An operand is the field R82, R85 or R86 names; ignored bits are no operand (log 13). -/

namespace Sys2Proof

/-- One operation KBIRT takes in a cycle, in the order of spec/opcode_table.json. -/
inductive Instr where
  /-- NOP, the CMD opcode 0x00 (R215). -/
  | nop
  /-- CRC_INIT, the CMD opcode 0x01 (R165). -/
  | crcInit
  /-- DIST_EST, the CMD opcode 0x02 (R189). -/
  | distEst
  /-- DIST_EST_RX, the CMD opcode 0x03 (R190). -/
  | distEstRx
  /-- CMD_RSV, a reserved CMD opcode 0x04..0xFF (R216). -/
  | cmdRsv (op : Byte)
  /-- WR_STATUS, `clr = data[4:1]` (R212). -/
  | wrStatus (clr : BitVec 4)
  /-- WR_IRQEN, `en = data[4:1]` (R213). -/
  | wrIrqen (en : BitVec 4)
  /-- WR_CRC_DATA, `d = data[7:0]` (R166). -/
  | wrCrcData (d : Byte)
  /-- WR_DIST_HG_IN, `s = data[9:0]` (R217). -/
  | wrDistHgIn (v : Sample)
  /-- WR_DIST_LG_IN, `s = data[9:0]` (R217). -/
  | wrDistLgIn (v : Sample)
  /-- WR_TX_PERIOD, `p = data` (R218). -/
  | wrTxPeriod (p : Word)
  /-- WR_CAL_HIGH, `i = addr - 0x40`, `v = data` (R219). -/
  | wrCalHigh (i : Fin 14) (v : Word)
  /-- WR_CAL_LOW, `i = addr - 0x50`, `v = data` (R220). -/
  | wrCalLow (i : Fin 14) (v : Word)
  /-- WR_RO, a write to a read-only register (R221). -/
  | wrRo (a : Addr)
  /-- WR_RSV, a write to a reserved address (R222). -/
  | wrRsv (a : Addr)
  /-- RD_WO, a read of CMD or CRC_DATA (R223). -/
  | rdWo (a : Addr)
  /-- RD_RSV, a read of a reserved address (R223). -/
  | rdRsv (a : Addr)
  /-- RD, a read of a readable register (R210). -/
  | rd (a : Addr)
  /-- HBUS_IDLE, no host access in this cycle (R224). -/
  | hbusIdle
  /-- RESET, event bit 0 (R260, R261). -/
  | reset
  /-- EDGE, event bit 1: one IR pulse edge, with the port `adc_data` (R114). -/
  | edge (adc : Sample)
  /-- EDGE_DROP, an edge in a cycle that starts in WAIT_SEND (R114). -/
  | edgeDrop
  /-- EDGE_START, the start bit (R116). -/
  | edgeStart (adc : Sample)
  /-- EDGE_STRAY, an edge outside the window (R117). -/
  | edgeStray
  /-- EDGE_DATA, a data bit (R119). -/
  | edgeData
  /-- EDGE_STOP, the stop bit (R120), which runs one of the five rows below. -/
  | edgeStop (adc : Sample)
  /-- EDGE_STOP_LEAD_OK, the stop bit of a clean leading byte (R121). -/
  | edgeStopLeadOk (adc : Sample)
  /-- EDGE_STOP_COLLISION, the stop bit of a nonzero leading byte (R122). -/
  | edgeStopCollision (adc : Sample)
  /-- EDGE_STOP_BYTE, the stop bit of a payload byte that is not the last (R123). -/
  | edgeStopByte
  /-- EDGE_STOP_DISPATCH, the last stop bit of a CRC-valid frame (R124). -/
  | edgeStopDispatch
  /-- EDGE_STOP_CRC_DROP, the last stop bit of a frame with a bad CRC (R125). -/
  | edgeStopCrcDrop
  /-- TICK, event bit 2 (R141). -/
  | tick
  /-- RSP_FRAME, event bits 3 and 4 (R145). -/
  | rspFrame
  /-- RSP_NONE, event bit 3 alone (R146). -/
  | rspNone
  /-- DONE_OK, event bits 5 and 6 (R147). -/
  | doneOk
  /-- DONE_FAIL, event bit 5 alone, with the port `rnd` (R148). -/
  | doneFail (rnd : Byte)
  /-- RUN_ELIGIBLE, the level of event bit 7 (R143). -/
  | runEligible
  /-- RX_TIMEOUT, INTERNAL: the watchdog expires (R112). -/
  | rxTimeout
  /-- TX_COMPARE, INTERNAL: the end of a TXB interval (R142 to R144). -/
  | txCompare
  deriving DecidableEq, Repr

/-- The input vector of one cycle (R279): the event vector `E` of R85, `adc_data` and `rnd` (R86), and the HBUS word,
`none` where `h_en = 0` (R81). -/
structure CycleInput where
  /-- `E`: bit 0 `rst`, 1 `ir_edge`, 2 `tx_tick`, 3 `tx_rsp_valid`, 4 `tx_rsp_frame`, 5 `tx_done`, 6 `tx_ok`,
  7 `run_eligible`. -/
  evt : Byte
  /-- The port `adc_data`. -/
  adc : Sample
  /-- The port `rnd`. -/
  rnd : Byte
  /-- The HBUS word, with `h_en = 1` where there is one. -/
  host : Option HostWord
  deriving DecidableEq, Repr, Inhabited

/-- A cycle with no event and no host access. -/
def CycleInput.idle : CycleInput := { evt := 0, adc := 0, rnd := 0, host := none }

end Sys2Proof
end

