-- ==== Sys2Proof/WellFormed.lean ====
section
/-! DEFINITION. Which operand values an operation may have: the `addr` sets and the `op` range of
spec/opcode_table.json (10_state.md R32, R52; 44_host_access.md R216, R221 to R223). -/

namespace Sys2Proof

/-- The read-only addresses of R221. -/
def roAddrs : List Nat :=
  [0x04, 0x07] ++ List.range' 0x09 6 ++ List.range' 0x10 4 ++ List.range' 0x20 12 ++ List.range' 0x30 12

/-- The reserved addresses of R52. -/
def rsvAddrs : List Nat :=
  [0x0F] ++ List.range' 0x14 12 ++ List.range' 0x2C 4 ++ List.range' 0x3C 4 ++ List.range' 0x4E 2 ++ List.range' 0x5E 34

/-- The write-only addresses of R223. -/
def woAddrs : List Nat := [0x02, 0x03]

/-- The addresses of the row RD: every register that R33 to R51 give a stored value. -/
def readableAddrs : List Nat :=
  [0x00, 0x01] ++ List.range' 0x04 11 ++ List.range' 0x10 4 ++ List.range' 0x20 12 ++ List.range' 0x30 12
    ++ List.range' 0x40 14 ++ List.range' 0x50 14

/-- The operands an encoding can give the operation. Where an operand has its full width, every value is legal. -/
def Instr.wellFormed : Instr → Bool
  | .cmdRsv op => 4 ≤ op.toNat
  | .wrRo a => roAddrs.contains a.toNat
  | .wrRsv a => rsvAddrs.contains a.toNat
  | .rdWo a => woAddrs.contains a.toNat
  | .rdRsv a => rsvAddrs.contains a.toNat
  | .rd a => readableAddrs.contains a.toNat
  | .nop | .crcInit | .distEst | .distEstRx | .wrStatus _ | .wrIrqen _ | .wrCrcData _ | .wrDistHgIn _
  | .wrDistLgIn _ | .wrTxPeriod _ | .wrCalHigh _ _ | .wrCalLow _ _ | .hbusIdle | .reset | .edge _ | .edgeDrop
  | .edgeStart _ | .edgeStray | .edgeData | .edgeStop _ | .edgeStopLeadOk _ | .edgeStopCollision _ | .edgeStopByte
  | .edgeStopDispatch | .edgeStopCrcDrop | .tick | .rspFrame | .rspNone | .doneOk | .doneFail _ | .runEligible
  | .rxTimeout | .txCompare => true

end Sys2Proof
end

