-- ==== Sys2Proof/Decode.lean ====
section
/-! DEFINITION. Decoding the HBUS word (30_encoding.md R81 to R84), the event vector (R85, R86) and the words of
spec/opcode_table.json, and the encoder. Decoding is total; every HBUS word is some row (R84: none traps). -/

namespace Sys2Proof

/-- The field `we` of R81. -/
def hostWe (w : HostWord) : Bool := w.getLsbD 23

/-- The field `addr` of R81. -/
def hostAddr (w : HostWord) : Addr := w.extractLsb' 16 7

/-- The field `data` of R81. -/
def hostData (w : HostWord) : Word := w.extractLsb' 0 16

/-- `W = {we, addr, data}` (R81). -/
def hostWord (we : Bool) (a : Addr) (d : Word) : HostWord := BitVec.ofBool we ++ a ++ d

/-- The command of a CMD write, `op = data[7:0]` (R83, R214). -/
def decodeCmd (op : Byte) : Instr :=
  if op = 0x00 then .nop
  else if op = 0x01 then .crcInit
  else if op = 0x02 then .distEst
  else if op = 0x03 then .distEstRx
  else .cmdRsv op

/-- A word address R52 reserves. -/
def isReserved (a : Nat) : Bool :=
  a = 0x0F || (0x14 ≤ a && a ≤ 0x1F) || (0x2C ≤ a && a ≤ 0x2F) || (0x3C ≤ a && a ≤ 0x3F)
    || (0x4E ≤ a && a ≤ 0x4F) || 0x5E ≤ a

/-- The write of `d` to address `a` (R211), with the operand fields of R82. -/
def decodeWrite (a : Addr) (d : Word) : Instr :=
  if a = 0x00 then .wrStatus (d.extractLsb' 1 4)
  else if a = 0x01 then .wrIrqen (d.extractLsb' 1 4)
  else if a = 0x02 then decodeCmd (d.extractLsb' 0 8)
  else if a = 0x03 then .wrCrcData (d.extractLsb' 0 8)
  else if a = 0x05 then .wrDistHgIn (d.extractLsb' 0 10)
  else if a = 0x06 then .wrDistLgIn (d.extractLsb' 0 10)
  else if a = 0x08 then .wrTxPeriod d
  else if h : 0x40 ≤ a.toNat ∧ a.toNat ≤ 0x4D then .wrCalHigh ⟨a.toNat - 0x40, by omega⟩ d
  else if h : 0x50 ≤ a.toNat ∧ a.toNat ≤ 0x5D then .wrCalLow ⟨a.toNat - 0x50, by omega⟩ d
  else if isReserved a.toNat then .wrRsv a
  else .wrRo a

/-- The read of address `a` (R210, R223). -/
def decodeRead (a : Addr) : Instr :=
  if a = 0x02 ∨ a = 0x03 then .rdWo a
  else if isReserved a.toNat then .rdRsv a
  else .rd a

/-- The HBUS row of a transaction word (R97 item 4). -/
def decodeHostWord (w : HostWord) : Instr :=
  if hostWe w then decodeWrite (hostAddr w) (hostData w) else decodeRead (hostAddr w)

/-- The host operation of a cycle; no word is HBUS_IDLE (R224). -/
def decodeHost : Option HostWord → Instr
  | none => .hbusIdle
  | some w => decodeHostWord w

/-- Every event operation an event vector presents, in the table's order (R85): with bit 0 set, RESET and nothing else
(R97 item 1). Bit 4 counts only with bit 3, and bit 6 only with bit 5. -/
def decodeEvents (e : Byte) (adc : Sample) (rnd : Byte) : List Instr :=
  if e.getLsbD 0 then [.reset]
  else
    (if e.getLsbD 1 then [.edge adc] else [])
    ++ (if e.getLsbD 2 then [.tick] else [])
    ++ (if e.getLsbD 3 then [if e.getLsbD 4 then .rspFrame else .rspNone] else [])
    ++ (if e.getLsbD 5 then [if e.getLsbD 6 then .doneOk else .doneFail rnd] else [])
    ++ (if e.getLsbD 7 then [.runEligible] else [])

/-- The first operation a cycle's inputs present: an event operation where there is one, else the host's. -/
def decodeFirst (c : CycleInput) : Instr :=
  match decodeEvents c.evt c.adc c.rnd with
  | i :: _ => i
  | [] => decodeHost c.host

/-- The inputs that present an instruction of spec/opcode_table.json whose bits are `w`: 24 bits are an HBUS word, 8 bits
an event vector with `adc_data` and `rnd` zero, 0 bits no word at all (HBUS_IDLE). Other widths are no row's. -/
def tableInput (nbits w : Nat) : Option CycleInput :=
  if nbits = 24 then some { CycleInput.idle with host := some (BitVec.ofNat 24 w) }
  else if nbits = 8 then some { CycleInput.idle with evt := BitVec.ofNat 8 w }
  else if nbits = 0 then some CycleInput.idle
  else none

/-- The instruction of a word of spec/opcode_table.json. An event vector of 0 presents no event row: `none`. The EDGE_*
rows share EDGE's word and are told apart by the state (R114 to R125), so their word decodes to EDGE (log 12). -/
def decodeTableWord (nbits w : Nat) : Option Instr :=
  match tableInput nbits w with
  | none => none
  | some c => if nbits = 8 then (decodeEvents c.evt c.adc c.rnd).head? else some (decodeHost c.host)

/-- A cycle whose only input is a host write (R81). -/
def writeInput (a : Addr) (d : Word) : CycleInput := { CycleInput.idle with host := some (hostWord true a d) }

/-- A cycle whose only input is a host read (R81: data is 0 in a read word). -/
def readInput (a : Addr) : CycleInput := { CycleInput.idle with host := some (hostWord false a 0) }

/-- A cycle whose only input is an event vector, with its data inputs (R85, R86). -/
def eventInput (e : Byte) (adc : Sample) (rnd : Byte) : CycleInput := { CycleInput.idle with evt := e, adc := adc, rnd := rnd }

/-- The `data` word whose bits 4:1 are `f` and whose other bits are 0 (R82). -/
def flagData (f : BitVec 4) : Word := 0#11 ++ f ++ 0#1

/-- The encoder: the inputs of a cycle that presents the operation alone, from spec/opcode_table.json. Ignored bits are 0
(log 13). An EDGE_* row is an edge; TX_COMPARE is a tick and RX_TIMEOUT no input at all, since an INTERNAL row has no
encoding (R87; log 21). -/
def encode : Instr → CycleInput
  | .nop => writeInput 0x02 0x0000
  | .crcInit => writeInput 0x02 0x0001
  | .distEst => writeInput 0x02 0x0002
  | .distEstRx => writeInput 0x02 0x0003
  | .cmdRsv op => writeInput 0x02 (op.setWidth 16)
  | .wrStatus clr => writeInput 0x00 (flagData clr)
  | .wrIrqen en => writeInput 0x01 (flagData en)
  | .wrCrcData d => writeInput 0x03 (d.setWidth 16)
  | .wrDistHgIn v => writeInput 0x05 (v.setWidth 16)
  | .wrDistLgIn v => writeInput 0x06 (v.setWidth 16)
  | .wrTxPeriod p => writeInput 0x08 p
  | .wrCalHigh i v => writeInput (BitVec.ofNat 7 (0x40 + i.val)) v
  | .wrCalLow i v => writeInput (BitVec.ofNat 7 (0x50 + i.val)) v
  | .wrRo a => writeInput a 0
  | .wrRsv a => writeInput a 0
  | .rdWo a => readInput a
  | .rdRsv a => readInput a
  | .rd a => readInput a
  | .hbusIdle => CycleInput.idle
  | .reset => eventInput 0x01 0 0
  | .edge adc => eventInput 0x02 adc 0
  | .edgeDrop => eventInput 0x02 0 0
  | .edgeStart adc => eventInput 0x02 adc 0
  | .edgeStray => eventInput 0x02 0 0
  | .edgeData => eventInput 0x02 0 0
  | .edgeStop adc => eventInput 0x02 adc 0
  | .edgeStopLeadOk adc => eventInput 0x02 adc 0
  | .edgeStopCollision adc => eventInput 0x02 adc 0
  | .edgeStopByte => eventInput 0x02 0 0
  | .edgeStopDispatch => eventInput 0x02 0 0
  | .edgeStopCrcDrop => eventInput 0x02 0 0
  | .tick => eventInput 0x04 0 0
  | .rspFrame => eventInput 0x18 0 0
  | .rspNone => eventInput 0x08 0 0
  | .doneOk => eventInput 0x60 0 0
  | .doneFail rnd => eventInput 0x20 0 rnd
  | .runEligible => eventInput 0x80 0 0
  | .rxTimeout => CycleInput.idle
  | .txCompare => eventInput 0x04 0 0

/-- The row the decoder, which sees no state, gives for the encoding of an operation: the row itself where its encoding
is its own; EDGE for the EDGE_* rows, TICK for TX_COMPARE, HBUS_IDLE for RX_TIMEOUT (R87, R97). -/
def Instr.decodedAs : Instr → Instr
  | .edgeDrop | .edgeStray | .edgeData | .edgeStopByte | .edgeStopDispatch | .edgeStopCrcDrop => .edge 0
  | .edgeStart adc | .edgeStop adc | .edgeStopLeadOk adc | .edgeStopCollision adc => .edge adc
  | .rxTimeout => .hbusIdle
  | .txCompare => .tick
  | i => i

end Sys2Proof
end

