-- ==== Sys2Proof/Config.lean ====
section
/-! DEFINITION. What the spec leaves to an implementation (00_scope.md R8) and the free values (00_scope.md R6, R13;
93_implementation_defined.md U2, U10, U12). -/

namespace Sys2Proof

/-- The named parameters of R8. `P_BASE` is `Config.pBase`. -/
structure Params where
  /-- `P_BIT`, one bit duration in cycles. -/
  bitTime : Nat
  /-- `P_TIMEOUT`, the watchdog's compare value. -/
  timeout : Nat
  /-- `P_HG_SAT`, the high-gain saturation threshold. -/
  hgSat : Nat
  /-- `P_HG_MIN`, the high-gain minimum threshold. -/
  hgMin : Nat
  /-- `P_DIST_OFF`, the baseline offset. -/
  distOff : Nat
  /-- `P_LOW_FAR`, the low-gain estimate where no bucket matches. -/
  lowFar : Nat
  /-- `P_DIST_SCALE`, output units per distance unit. -/
  distScale : Nat
  /-- `P_TX_PERIOD_RST`, the reset value of TX_PERIOD. -/
  txPeriodRst : Word
  deriving DecidableEq, Repr

/-- PRESUMED (unsafe where a claim runs from `State.reset`): the defaults R8 suggests and marks as general knowledge
(93 G1 to G6; log 6). No meaning depends on them; a run may have any legal `Params`. -/
def Config.suggested : Params :=
  { bitTime := 269, timeout := 2959, hgSat := 900, hgMin := 700, distOff := 33, lowFar := 90, distScale := 10,
    txPeriodRst := 3906 }

/-- `P_BASE`: where the platform places the block (R68). Left to the platform; no rule reads it (log 8). -/
opaque Config.pBase : Nat

/-- FREE VALUE: the `n`-th `draw(8)` of R188, the value `dist_out` takes on EstimatorError (93 U2; log 5). -/
opaque Config.draw8 : Nat → Byte

/-- FREE VALUE: the inputs the environment presents in cycle `n` where the schedule lists none (R6: "draws"; log 4). -/
opaque Config.envInput : Nat → CycleInput

end Sys2Proof
end

