-- ==== Sys2Proof/Machine/State.lean ====
section
/-! DEFINITION. The state of KBIRT (10_state.md R23 to R29, complete by R53), its parameters (R8), and the model's own
fields: the environment's inputs, the free values' counters, the output port `h_rdata` and what one cycle remembers
between its operations. Its reset state (R53, R260). -/

namespace Sys2Proof.Machine

/-- `tx_state` (R28, R140). The fourth value of the 2 bits is never reached (R92; log 9). -/
inductive TxState where
  | idle
  | waitFrame
  | waitSend
  deriving DecidableEq, Repr

/-- RXD's state (R23, R24). -/
structure Rxd where
  /-- `rx_await`: awaiting a start bit. -/
  await : Bool
  /-- `rx_lead`: the byte is the leading byte. -/
  lead : Bool
  /-- `rx_busy`: receiver busy. -/
  busy : Bool
  /-- `rx_run`: the watchdog counter is running. -/
  run : Bool
  /-- `rx_cnt`: cycles since the last start bit. -/
  cnt : Word
  /-- `rx_byte`: the byte accumulator. -/
  byte : Byte
  /-- `rx_idx`: the byte offset in the frame buffer. -/
  idx : BitVec 4
  /-- `rx_hg`: the high-gain sample. -/
  hg : Sample
  /-- `rx_lg`: the low-gain sample. -/
  lg : Sample
  /-- `gain_sel`: 0 high gain, 1 low gain. -/
  gainSel : Bool
  /-- `rx_buf`: the receive frame buffer. -/
  buf : Frame
  deriving DecidableEq, Repr

/-- The dispatch output state (R25). -/
structure Rxo where
  /-- `rxo_frame`. -/
  frame : Frame
  /-- `rxo_hg`. -/
  hg : Sample
  /-- `rxo_lg`. -/
  lg : Sample
  deriving DecidableEq, Repr

/-- DIST's state (R27). -/
structure Dist where
  /-- `cal_high`. -/
  calHigh : CalTable
  /-- `cal_low`. -/
  calLow : CalTable
  /-- `dist_hg_in`. -/
  hgIn : Sample
  /-- `dist_lg_in`. -/
  lgIn : Sample
  /-- `dist_out`. -/
  out : Byte
  deriving DecidableEq, Repr

/-- TXB's state (R28). -/
structure Txb where
  /-- `tx_state`. -/
  state : TxState
  /-- `tx_cnt`: ticks counted in the interval. -/
  cnt : Byte
  /-- `tx_inc`: the interval length minus 1. -/
  inc : Byte
  /-- `tx_acc`: the accumulated wait. -/
  acc : Word
  /-- `tx_period`: the nominal period. -/
  period : Word
  deriving DecidableEq, Repr

/-- One bit for each cause of R230: the sticky flags of STATUS, or the causes raised in a cycle. -/
structure Flags where
  /-- Code 1, `FrameDispatched`: `st_rxv`. -/
  rxv : Bool
  /-- Code 2, `TransmitSuccess`: `st_txs`. -/
  txs : Bool
  /-- Code 3, `EstimatorError`: `st_derr`. -/
  derr : Bool
  /-- Code 4, `CommandError`: `st_cerr`. -/
  cerr : Bool
  deriving DecidableEq, Repr

/-- Status and interrupt state (R29). -/
structure Status where
  /-- `st_rxv`, `st_txs`, `st_derr`, `st_cerr`. -/
  flags : Flags
  /-- `irqen`: bit `k` enables the flag of cause `k + 1`. -/
  irqen : BitVec 4
  /-- `disp_pulse`. -/
  dispPulse : Bool
  /-- `txs_pulse`. -/
  txsPulse : Bool
  deriving DecidableEq, Repr

/-- THE MODEL'S OWN: what the operations of one cycle share (logs 2, 3, 16). Idle between cycles. -/
structure CycleCtx where
  /-- `S.rx_busy` of this cycle, which TXB reads (R71, R143). -/
  rxBusy : Bool
  /-- `S.rxo_hg` of this cycle, which DIST_EST_RX reads (R190). -/
  rxoHg : Sample
  /-- `S.rxo_lg` of this cycle. -/
  rxoLg : Sample
  /-- The level of the port `run_eligible` in this cycle (R143). -/
  runEligible : Bool
  /-- The causes raised so far in this cycle (R212 `set_k`, R233). -/
  raised : Flags
  /-- A start bit loaded `rx_cnt` in this cycle (R126). -/
  cntLoaded : Bool
  deriving DecidableEq, Repr

/-- THE MODEL'S OWN: the environment (logs 4, 5). -/
structure Env where
  /-- The inputs of the cycles to come, the next cycle's first (R279). -/
  schedule : List CycleInput
  /-- Cycles run: the index of `Config.envInput` once the schedule is used up. -/
  cycle : Nat
  /-- Draws of `dist_out` made: the index of `Config.draw8`. -/
  draws : Nat
  deriving DecidableEq, Repr

/-- The whole machine: the spec's state, its parameters, and the model's own `cyc`, `env` and `hRdata`. -/
structure State where
  rxd : Rxd
  rxo : Rxo
  /-- `crc_acc` (R26). -/
  crcAcc : Word
  dist : Dist
  txb : Txb
  st : Status
  /-- The output port `h_rdata` in the cycle just run (R31, R61; log 15). -/
  hRdata : Word
  /-- The parameters of R8, which no rule writes (log 6). -/
  params : Params
  cyc : CycleCtx
  env : Env
  deriving DecidableEq, Repr

/-- KBIRT traps nowhere (R238): the one fault marks states the spec says do not occur. -/
inductive Fault where
  /-- Raised by a stop-bit edge (EDGE, EDGE_STOP) with `rx_lead = 0` and `rx_idx` above 11: R120 names no rule for it,
  and R23 says no cycle starts with such an `rx_idx`. Safe: the model stops where the spec gives no effect (log 10). -/
  | rxIdxOutOfRange
  deriving DecidableEq, Repr

/-- Why the model refuses to run. -/
inductive Refusal where
  /-- Raised by `exec` for an operation without a meaning yet; none is left. Safe: the model stops. -/
  | notModelled (mnemonic : String)
  /-- Raised by `step` where the parameters break R8 or R10, which says a model refuses them. Safe (log 7). -/
  | illegalParams
  deriving DecidableEq, Repr

/-- No cause. -/
def Flags.none : Flags := { rxv := false, txs := false, derr := false, cerr := false }

/-- The cycle context between cycles. -/
def CycleCtx.idle : CycleCtx :=
  { rxBusy := false, rxoHg := 0, rxoLg := 0, runEligible := false, raised := Flags.none, cntLoaded := false }

/-- The state R53 gives every element after a reset, under the parameters `p`, with no inputs scheduled. -/
def State.initial (p : Params) : State :=
  { rxd :=
      { await := true, lead := true, busy := false, run := false, cnt := 0, byte := 0, idx := 0, hg := 0, lg := 0,
        gainSel := false, buf := Vector.replicate 12 0 }
    rxo := { frame := Vector.replicate 12 0, hg := 0, lg := 0 }
    crcAcc := 0xFFFF
    dist :=
      { calHigh := Vector.replicate 14 0, calLow := Vector.replicate 14 0, hgIn := 0, lgIn := 0, out := 0 }
    txb := { state := .idle, cnt := 0, inc := 0xFF, acc := 0, period := p.txPeriodRst }
    st := { flags := Flags.none, irqen := 0, dispPulse := false, txsPulse := false }
    hRdata := 0
    params := p
    cyc := CycleCtx.idle
    env := { schedule := [], cycle := 0, draws := 0 } }

/-- The machine right after reset (R53, R260, R263), under the suggested parameters (PRESUMED, log 6). -/
def State.reset : State := State.initial Config.suggested

end Sys2Proof.Machine
end

