-- ==== Sys2Proof/Machine/Flags.lean ====
section
/-! DEFINITION. The status flags: the four causes (60_exceptions.md R230), one flag each, and the interrupt level (R234). -/

namespace Sys2Proof.Machine

/-- The causes of R230. -/
inductive Cause where
  | frameDispatched
  | transmitSuccess
  | estimatorError
  | commandError
  deriving DecidableEq, Repr

/-- A cause's code, the STATUS bit of its flag (R230). -/
def causeCode : Cause → Nat
  | .frameDispatched => 1
  | .transmitSuccess => 2
  | .estimatorError => 3
  | .commandError => 4

/-- The flag of a cause. -/
def getFlag (f : Flags) : Cause → Bool
  | .frameDispatched => f.rxv
  | .transmitSuccess => f.txs
  | .estimatorError => f.derr
  | .commandError => f.cerr

/-- `f` with the flag of a cause at 1. -/
def setFlag (f : Flags) : Cause → Flags
  | .frameDispatched => { f with rxv := true }
  | .transmitSuccess => { f with txs := true }
  | .estimatorError => { f with derr := true }
  | .commandError => { f with cerr := true }

/-- R212: a flag is 1 if its cause was raised in this cycle, else 0 if the host writes a 1 to it, else as it was. -/
def flagAfterClear (raised clr old : Bool) : Bool := if raised then true else if clr then false else old

/-- R212 for the four flags, `clr = data[4:1]` (bit `k` of `clr` is `data[k + 1]`). -/
def flagsAfterClear (raised : Flags) (clr : BitVec 4) (old : Flags) : Flags :=
  { rxv := flagAfterClear raised.rxv (clr.getLsbD 0) old.rxv
    txs := flagAfterClear raised.txs (clr.getLsbD 1) old.txs
    derr := flagAfterClear raised.derr (clr.getLsbD 2) old.derr
    cerr := flagAfterClear raised.cerr (clr.getLsbD 3) old.cerr }

/-- The interrupt output of R234, a level of `S`. -/
def irqLevel (st : Status) : Bool :=
  (st.flags.rxv && st.irqen.getLsbD 0) || (st.flags.txs && st.irqen.getLsbD 1)
    || (st.flags.derr && st.irqen.getLsbD 2) || (st.flags.cerr && st.irqen.getLsbD 3)

end Sys2Proof.Machine
end

