-- ==== Sys2Proof/Machine/Operands.lean ====
section
/-! DEFINITION. What a host read sees: the field tables of 10_state.md R33 to R51 and `MemRead` (R210). The operands a
write uses (R82) are pulled out by the decoder. -/

namespace Sys2Proof.Machine

/-- The 2-bit value of `tx_state` (R28, R140). -/
def txStateCode : TxState → BitVec 2
  | .idle => 0
  | .waitFrame => 1
  | .waitSend => 2

/-- STATUS (R33): RXBUSY, RXV, TXS, DERR, CERR, TXST, GAIN from bit 0 up. -/
def statusWord (s : State) : Word :=
  0#8 ++ BitVec.ofBool s.rxd.gainSel ++ txStateCode s.txb.state ++ BitVec.ofBool s.st.flags.cerr
    ++ BitVec.ofBool s.st.flags.derr ++ BitVec.ofBool s.st.flags.txs ++ BitVec.ofBool s.st.flags.rxv
    ++ BitVec.ofBool s.rxd.busy

/-- IRQEN (R34): `irqen` in bits 4:1. -/
def irqenWord (s : State) : Word := 0#11 ++ s.st.irqen ++ 0#1

/-- RX_CTL (R44): `rx_await`, `rx_lead`, `rx_busy`, `rx_run`, `rx_idx`, `gain_sel` from bit 0 up. -/
def rxCtlWord (s : State) : Word :=
  0#7 ++ BitVec.ofBool s.rxd.gainSel ++ s.rxd.idx ++ BitVec.ofBool s.rxd.run ++ BitVec.ofBool s.rxd.busy
    ++ BitVec.ofBool s.rxd.lead ++ BitVec.ofBool s.rxd.await

/-- Element `i` of a frame buffer; every use has `i` below 12. -/
def frameByte (f : Frame) (i : Nat) : Byte := f.toList.getD i 0

/-- Entry `i` of a calibration table; every use has `i` below 14. -/
def calEntry (t : CalTable) (i : Nat) : Word := t.toList.getD i 0

/-- The registers below 0x14 (R33 to R48); CMD, CRC_DATA and the reserved 0x0F read 0 (R35, R36, R52). -/
def memReadLow (s : State) (a : Nat) : Word :=
  match a with
  | 0x00 => statusWord s
  | 0x01 => irqenWord s
  | 0x04 => s.crcAcc
  | 0x05 => s.dist.hgIn.setWidth 16
  | 0x06 => s.dist.lgIn.setWidth 16
  | 0x07 => s.dist.out.setWidth 16
  | 0x08 => s.txb.period
  | 0x09 => s.txb.acc
  | 0x0A => s.txb.inc.setWidth 16
  | 0x0B => s.txb.cnt.setWidth 16
  | 0x0C => rxCtlWord s
  | 0x0D => s.rxd.cnt
  | 0x0E => s.rxd.byte.setWidth 16
  | 0x10 => s.rxd.hg.setWidth 16
  | 0x11 => s.rxd.lg.setWidth 16
  | 0x12 => s.rxo.hg.setWidth 16
  | 0x13 => s.rxo.lg.setWidth 16
  | _ => 0

/-- `MemRead(a, 2)` (R210): the 16-bit value of a word address, 0 where it is write-only or reserved (R223). -/
def memRead (s : State) (a : Addr) : Word :=
  let n := a.toNat
  if n < 0x14 then memReadLow s n
  else if 0x20 ≤ n ∧ n ≤ 0x2B then (frameByte s.rxd.buf (n - 0x20)).setWidth 16
  else if 0x30 ≤ n ∧ n ≤ 0x3B then (frameByte s.rxo.frame (n - 0x30)).setWidth 16
  else if 0x40 ≤ n ∧ n ≤ 0x4D then calEntry s.dist.calHigh (n - 0x40)
  else if 0x50 ≤ n ∧ n ≤ 0x5D then calEntry s.dist.calLow (n - 0x50)
  else 0

end Sys2Proof.Machine
end

