-- ==== Sys2Proof/Machine/Ops.lean ====
section
/-! DEFINITION. The shared operations: legal parameters (R8, R10), outcomes in sequence, raising a cause and clearing
its flag (60_exceptions.md R230, R233, R239: KBIRT's whole of exception entry and return, R238), the receiver reset
(R111), the counter (R126), the host's data output, and the frame of a cycle (R266). -/

namespace Sys2Proof.Machine

/-- The parameter sets a model runs: the ranges of R8 and the constraints of R10 (log 7). -/
def paramsLegal (p : Params) : Bool :=
  2 ≤ p.bitTime && p.bitTime ≤ 6898 && 1 ≤ p.timeout && p.timeout ≤ 65535 && p.hgSat ≤ 1024 && p.hgMin ≤ 1023
    && p.hgMin < p.hgSat && p.distOff ≤ 255 && p.lowFar ≤ 255 && 1 ≤ p.distScale && p.distScale ≤ 255

/-- `f` after `o`, where `o` goes on. -/
def andThen (o : Host.Outcome State Fault Refusal) (f : State → Host.Outcome State Fault Refusal) :
    Host.Outcome State Fault Refusal :=
  match o with
  | .next s => f s
  | .fault r => .fault r
  | .refused r => .refused r

/-- `raise C` (R230): the sticky flag of the cause is set, and the cycle remembers the cause (R233). It diverts no
control flow (R13, R238). -/
def State.raiseCause (c : Cause) (s : State) : State :=
  { s with
    st := { s.st with flags := setFlag s.st.flags c }
    cyc := { s.cyc with raised := setFlag s.cyc.raised c } }

/-- The W1C write (R212, R233): how the host returns from a cause (R239). A cause raised in this cycle wins. -/
def State.clearCauses (clr : BitVec 4) (s : State) : State :=
  { s with st := { s.st with flags := flagsAfterClear s.cyc.raised clr s.st.flags } }

/-- `RxReset()` (R111); `rx_hg`, `rx_lg` and `rx_buf` keep their values. -/
def State.rxReset (s : State) : State :=
  { s with
    rxd :=
      { s.rxd with
        await := true, lead := true, busy := false, run := false, cnt := 0, byte := 0, idx := 0, gainSel := false } }

/-- R126 after the cycle's timeout and edge: a running counter that no start bit loaded advances. (`RxReset` stops the
counter at 0.) -/
def State.countRx (s : State) : State :=
  if s.rxd.run && !s.cyc.cntLoaded then { s with rxd := { s.rxd with cnt := s.rxd.cnt + 1 } } else s

/-- The value of the output port `h_rdata` in this cycle (R61). -/
def State.readOut (v : Word) (s : State) : State := { s with hRdata := v }

/-- The value of `dist_out` R188 leaves open: the next free value, used once. -/
def State.drawDist (s : State) : State :=
  { s with
    dist := { s.dist with out := Config.draw8 s.env.draws }
    env := { s.env with draws := s.env.draws + 1 } }

/-- `buf` with byte `i` written (R123, R124). -/
def setFrameByte (f : Frame) (i : Nat) (b : Byte) : Frame := f.setIfInBounds i b

/-- A table with entry `i` written (R219, R220). -/
def setCalEntry (t : CalTable) (i : Nat) (v : Word) : CalTable := t.setIfInBounds i v

/-- The inputs of the next cycle: the schedule's first, else the environment's draw (R6; log 4). -/
def State.nextInput (s : State) : CycleInput :=
  match s.env.schedule with
  | [] => Config.envInput s.env.cycle
  | c :: _ => c

/-- The start of a cycle: the inputs are taken, `S` is latched where a rule reads it late, both pulses fall unless a
rule of this cycle raises them (R29), and `h_rdata` is 0 unless the host reads (R61). -/
def State.beginCycle (s : State) : State :=
  { s with
    st := { s.st with dispPulse := false, txsPulse := false }
    hRdata := 0
    cyc := { CycleCtx.idle with rxBusy := s.rxd.busy, rxoHg := s.rxo.hg, rxoLg := s.rxo.lg }
    env := { s.env with schedule := s.env.schedule.tail, cycle := s.env.cycle + 1 } }

/-- The end of a cycle: what it remembered is dropped. The flag merge of R266 step 7 is already made: a cause sets its
flag when it is raised, and the W1C of step 6 spares the causes raised in the cycle. -/
def State.endCycle (s : State) : State := { s with cyc := CycleCtx.idle }

end Sys2Proof.Machine
end

