-- ==== Sys2Proof/Machine/Crc.lean ====
section
/-! DEFINITION. CRC: the CRC-16/CCITT function, the frame check and the host-driven engine (42_crc.md R160 to R168). -/

namespace Sys2Proof.Machine

/-- `crc_upd(c, d)` (R160). -/
def crcUpd (c : Word) (d : Byte) : Word :=
  let x := d ^^^ c.setWidth 8
  let y := x ^^^ (x <<< 4)
  (y ++ c.extractLsb' 8 8) ^^^ (y >>> 4).setWidth 16 ^^^ (y.setWidth 16 <<< 3)

/-- One shift of the bitwise form (R161). -/
def crcShift (c : Word) : Word := if c.getLsbD 0 then (c >>> 1) ^^^ 0x8408 else c >>> 1

/-- `n` shifts. -/
def crcShifts : Nat → Word → Word
  | 0, c => c
  | n + 1, c => crcShifts n (crcShift c)

/-- `crc_bit(c, d)` (R161), the form R161 says gives the same result. -/
def crcBit (c : Word) (d : Byte) : Word := crcShifts 8 (c ^^^ d.setWidth 16)

/-- `CRC16(b)`: the left fold from the seed 0xFFFF (R162). -/
def crc16 (b : List Byte) : Word := b.foldl crcUpd 0xFFFF

/-- `FrameOK(b)` (R163): the CRC of bytes 0..9 against bytes 10 (low) and 11 (high) (R164). -/
def frameOk (f : Frame) : Bool := crc16 (f.toList.take 10) == frameByte f 11 ++ frameByte f 10

/-- CRC_INIT (R165). -/
def execCrcInit (s : State) : Host.Outcome State Fault Refusal := .next { s with crcAcc := 0xFFFF }

/-- WR_CRC_DATA (R166). -/
def execWrCrcData (d : Byte) (s : State) : Host.Outcome State Fault Refusal :=
  .next { s with crcAcc := crcUpd s.crcAcc d }

end Sys2Proof.Machine
end

