-- ==== Sys2Proof/Machine/Rxd.lean ====
section
/-! DEFINITION. RXD: the window and bit index (00_scope.md R9; 40_rx_decoder.md R117, R118), which row an edge is
(R114 to R125), the meanings of the EDGE rows and of RX_TIMEOUT (R112). An EDGE_* row whose condition the state does not
meet has no effect, as R116 and R117 write it with their `if` (log 11). -/

namespace Sys2Proof.Machine

/-- `RX_LO` (R9). -/
def rxLo (p : Params) : Nat := p.bitTime / 2

/-- `RX_HI` (R9). -/
def rxHi (p : Params) : Nat := 9 * p.bitTime + p.bitTime / 2

/-- `RX_M` (R9), the 16-bit reciprocal. -/
def rxM (p : Params) : Nat := (2 ^ 16 + p.bitTime - 1) / p.bitTime

/-- `BitIndex(t)` (R118), for `RX_LO < t < RX_HI`. -/
def bitIndex (p : Params) (t : Nat) : Nat := ((t - rxLo p) * rxM p % 2 ^ 32) / 2 ^ 16

/-- The row of the table an edge is. -/
inductive EdgeKind where
  | drop
  | start
  | stray
  | data
  | stopLeadOk
  | stopCollision
  | stopByte
  | stopDispatch
  | stopCrcDrop
  /-- A stop bit no rule covers: `rx_lead = 0` and `rx_idx` above 11, which never occurs (R23; log 10). -/
  | stopOutOfRange
  deriving DecidableEq, Repr

/-- The buffer a last stop bit completes: `rx_buf` with byte 11 the byte just received (R124). -/
def completedFrame (r : Rxd) : Frame := setFrameByte r.buf 11 r.byte

/-- Which of R121 to R125 a stop bit runs (R120). -/
def stopKind (r : Rxd) : EdgeKind :=
  if r.lead then if r.byte = 0 then .stopLeadOk else .stopCollision
  else if r.idx.toNat ≤ 10 then .stopByte
  else if r.idx.toNat = 11 then if frameOk (completedFrame r) then .stopDispatch else .stopCrcDrop
  else .stopOutOfRange

/-- Which row an edge is, with `t = S1.rx_cnt` (R114 to R120). -/
def edgeKind (s : State) : EdgeKind :=
  if s.txb.state = .waitSend then .drop
  else if s.rxd.await then .start
  else
    let t := s.rxd.cnt.toNat
    if t ≤ rxLo s.params ∨ rxHi s.params ≤ t then .stray
    else if bitIndex s.params t ≤ 7 then .data
    else stopKind s.rxd

/-- The edge is a stop bit (R120). -/
def EdgeKind.isStop : EdgeKind → Bool
  | .stopLeadOk | .stopCollision | .stopByte | .stopDispatch | .stopCrcDrop | .stopOutOfRange => true
  | .drop | .start | .stray | .data => false

/-- Every taken edge marks the receiver busy (R115). -/
def State.takeEdge (s : State) : State := { s with rxd := { s.rxd with busy := true } }

/-- What every stop bit does first (R115, R120). -/
def State.stopBit (s : State) : State := { s with rxd := { s.rxd with busy := true, await := true } }

/-- EDGE_START's effect (R116). -/
def State.startBit (adc : Sample) (s : State) : State :=
  { s with
    rxd :=
      { s.takeEdge.rxd with
        await := false
        byte := 0
        run := true
        cnt := 1
        hg := if s.rxd.lead then adc else s.rxd.hg
        gainSel := if s.rxd.lead then true else s.rxd.gainSel }
    cyc := { s.cyc with cntLoaded := true } }

/-- EDGE_DATA's effect (R119). -/
def State.dataBit (s : State) : State :=
  { s with
    rxd := { s.takeEdge.rxd with byte := s.rxd.byte ||| 1#8 <<< bitIndex s.params s.rxd.cnt.toNat } }

/-- The low-gain sample of a leading byte's stop bit (R121, R122). -/
def State.sampleLow (adc : Sample) (s : State) : State := { s with rxd := { s.rxd with lg := adc } }

/-- R121: a clean leading byte. -/
def State.leadDone (s : State) : State :=
  { s with rxd := { s.rxd with gainSel := false, lead := false, idx := 0 } }

/-- R123: a payload byte is stored at `rx_idx`. -/
def State.storeByte (s : State) : State :=
  { s with
    rxd := { s.rxd with buf := setFrameByte s.rxd.buf s.rxd.idx.toNat s.rxd.byte, idx := s.rxd.idx + 1 } }

/-- The store of the last byte (R124, R125). -/
def State.storeLast (s : State) : State := { s with rxd := { s.rxd with buf := completedFrame s.rxd } }

/-- The hand-over of R124: the frame and its gain samples to RXO, and the dispatch pulse. -/
def State.dispatchFrame (s : State) : State :=
  { s with
    rxo := { frame := s.rxd.buf, hg := s.rxd.hg, lg := s.rxd.lg }
    st := { s.st with dispPulse := true } }

/-- EDGE_DROP (R114): the edge is ignored. -/
def execEdgeDrop (s : State) : Host.Outcome State Fault Refusal := .next s

/-- EDGE_START (R115, R116). -/
def execEdgeStart (adc : Sample) (s : State) : Host.Outcome State Fault Refusal :=
  .next (if edgeKind s = .start then s.startBit adc else s)

/-- EDGE_STRAY (R117). -/
def execEdgeStray (s : State) : Host.Outcome State Fault Refusal :=
  .next (if edgeKind s = .stray then s.takeEdge.rxReset else s)

/-- EDGE_DATA (R115, R119). -/
def execEdgeData (s : State) : Host.Outcome State Fault Refusal :=
  .next (if edgeKind s = .data then s.dataBit else s)

/-- EDGE_STOP_LEAD_OK (R120, R121). -/
def execEdgeStopLeadOk (adc : Sample) (s : State) : Host.Outcome State Fault Refusal :=
  .next (if edgeKind s = .stopLeadOk then (s.stopBit.sampleLow adc).leadDone else s)

/-- EDGE_STOP_COLLISION (R120, R122): the frame is aborted. -/
def execEdgeStopCollision (adc : Sample) (s : State) : Host.Outcome State Fault Refusal :=
  .next (if edgeKind s = .stopCollision then (s.stopBit.sampleLow adc).rxReset else s)

/-- EDGE_STOP_BYTE (R120, R123). -/
def execEdgeStopByte (s : State) : Host.Outcome State Fault Refusal :=
  .next (if edgeKind s = .stopByte then s.stopBit.storeByte else s)

/-- EDGE_STOP_DISPATCH (R120, R124). -/
def execEdgeStopDispatch (s : State) : Host.Outcome State Fault Refusal :=
  .next
    (if edgeKind s = .stopDispatch then
      s.stopBit.storeLast.rxReset.dispatchFrame.raiseCause .frameDispatched
    else s)

/-- EDGE_STOP_CRC_DROP (R120, R125): the frame is dropped without a flag. -/
def execEdgeStopCrcDrop (s : State) : Host.Outcome State Fault Refusal :=
  .next (if edgeKind s = .stopCrcDrop then s.stopBit.storeLast.rxReset else s)

/-- EDGE_STOP (R120): exactly one of R121 to R125. -/
def execEdgeStop (adc : Sample) (s : State) : Host.Outcome State Fault Refusal :=
  match edgeKind s with
  | .stopLeadOk => execEdgeStopLeadOk adc s
  | .stopCollision => execEdgeStopCollision adc s
  | .stopByte => execEdgeStopByte s
  | .stopDispatch => execEdgeStopDispatch s
  | .stopCrcDrop => execEdgeStopCrcDrop s
  | .stopOutOfRange => .fault .rxIdxOutOfRange
  | .drop | .start | .stray | .data => .next s

/-- EDGE (R114): the row the state selects. -/
def execEdge (adc : Sample) (s : State) : Host.Outcome State Fault Refusal :=
  match edgeKind s with
  | .drop => execEdgeDrop s
  | .start => execEdgeStart adc s
  | .stray => execEdgeStray s
  | .data => execEdgeData s
  | .stopLeadOk | .stopCollision | .stopByte | .stopDispatch | .stopCrcDrop | .stopOutOfRange => execEdgeStop adc s

/-- The watchdog has expired (R112). -/
def timeoutDue (s : State) : Bool := s.rxd.run && s.rxd.cnt.toNat == s.params.timeout

/-- RX_TIMEOUT (R112). -/
def execRxTimeout (s : State) : Host.Outcome State Fault Refusal :=
  .next (if timeoutDue s then s.rxReset else s)

end Sys2Proof.Machine
end

