-- ==== Sys2Proof/Machine/Txb.lean ====
section
/-! DEFINITION. TXB: the tick counter, the scheduling decision and the send handshake (41_tx_scheduler.md R140 to R149).
An input that does not apply to the current state is ignored (R149). -/

namespace Sys2Proof.Machine

/-- The interval is over: the condition of the row TX_COMPARE, but for the tick (R141). -/
def compareDue (s : State) : Bool := s.txb.state == .idle && s.txb.cnt == s.txb.inc

/-- `acc_new` (R142). -/
def accNew (s : State) : Word := s.txb.acc + s.txb.inc.setWidth 16

/-- The scheduling decision of R143, on `S.rx_busy`, `acc_new`, `S.tx_period` and the port `run_eligible`. -/
def requestDue (s : State) : Bool :=
  !s.cyc.rxBusy && decide (s.txb.period.toNat < (accNew s).toNat) && s.cyc.runEligible

/-- A compare event: accumulate (R142), then request (R143) or skip (R144). -/
def State.compare (s : State) : State :=
  { s with
    txb :=
      { s.txb with
        cnt := 0
        acc := accNew s
        inc := 0xFF
        state := if requestDue s then .waitFrame else s.txb.state } }

/-- A counted tick (R141). -/
def State.countTick (s : State) : State := { s with txb := { s.txb with cnt := s.txb.cnt + 1 } }

/-- `tx_state <- st`. -/
def State.goTx (st : TxState) (s : State) : State := { s with txb := { s.txb with state := st } }

/-- R147: the accumulator starts fresh and `tx_success` pulses. -/
def State.sendDone (s : State) : State :=
  { s with
    txb := { s.txb with acc := 0, state := .idle }
    st := { s.st with txsPulse := true } }

/-- TX_COMPARE (R142 to R144). -/
def execTxCompare (s : State) : Host.Outcome State Fault Refusal :=
  .next (if compareDue s then s.compare else s)

/-- TICK (R141): outside IDLE it is ignored (R149); at the end of the interval it is the compare event. -/
def execTick (s : State) : Host.Outcome State Fault Refusal :=
  if s.txb.state = .idle then if compareDue s then execTxCompare s else .next s.countTick else .next s

/-- RSP_FRAME (R145). -/
def execRspFrame (s : State) : Host.Outcome State Fault Refusal :=
  .next (if s.txb.state = .waitFrame then s.goTx .waitSend else s)

/-- RSP_NONE (R146). -/
def execRspNone (s : State) : Host.Outcome State Fault Refusal :=
  .next (if s.txb.state = .waitFrame then s.goTx .idle else s)

/-- DONE_OK (R147). -/
def execDoneOk (s : State) : Host.Outcome State Fault Refusal :=
  .next (if s.txb.state = .waitSend then s.sendDone.raiseCause .transmitSuccess else s)

/-- DONE_FAIL (R148). -/
def execDoneFail (rnd : Byte) (s : State) : Host.Outcome State Fault Refusal :=
  .next (if s.txb.state = .waitSend then { s with txb := { s.txb with inc := rnd, state := .idle } } else s)

/-- RUN_ELIGIBLE (R85 bit 7, R143): the level is 1 in this cycle, for TX_COMPARE to read (log 16). -/
def execRunEligible (s : State) : Host.Outcome State Fault Refusal :=
  .next { s with cyc := { s.cyc with runEligible := true } }

end Sys2Proof.Machine
end

