-- ==== Sys2Proof/Machine/Cycle.lean ====
section
/-! DEFINITION. Which operations one cycle runs, in the order of 70_reset_and_hazards.md R266 and 30_encoding.md R97, and
how an instruction of the opcode table is placed where the next cycle takes its inputs. -/

namespace Sys2Proof.Machine

/-- The cycle is a reset cycle (R97 item 1). -/
def inReset (c : CycleInput) : Bool := c.evt.getLsbD 0

/-- The event operations the inputs present. -/
def events (c : CycleInput) : List Instr := decodeEvents c.evt c.adc c.rnd

/-- A host operation of R266 step 1: a read, or no access, which set `h_rdata` alone. -/
def isHostRead : Instr → Bool
  | .rd _ | .rdWo _ | .rdRsv _ | .hbusIdle => true
  | _ => false

/-- Step 1: the host read. -/
def readOps (c : CycleInput) : List Instr := if isHostRead (decodeHost c.host) then [decodeHost c.host] else []

/-- Step 2: RX_TIMEOUT, from `S`. -/
def timeoutOps (s : State) : List Instr := if timeoutDue s then [.rxTimeout] else []

/-- Step 3: the edge. -/
def edgeOps (c : CycleInput) : List Instr :=
  (events c).filter fun i => match i with
    | .edge _ => true
    | _ => false

/-- Step 5, the level: `run_eligible` (R85 bit 7), before the operation that reads it. -/
def levelOps (c : CycleInput) : List Instr :=
  (events c).filter fun i => match i with
    | .runEligible => true
    | _ => false

/-- The TXB operation an event is in the state `S`: at most one applies, chosen by `S.tx_state` (R97 item 3, R149). -/
def selectTx (s : State) (i : Instr) : Option Instr :=
  match s.txb.state, i with
  | .idle, .tick => some (if compareDue s then .txCompare else .tick)
  | .waitFrame, .rspFrame => some .rspFrame
  | .waitFrame, .rspNone => some .rspNone
  | .waitSend, .doneOk => some .doneOk
  | .waitSend, .doneFail rnd => some (.doneFail rnd)
  | _, _ => none

/-- Step 5: TXB, from `S`. -/
def txOps (c : CycleInput) (s : State) : List Instr := (events c).filterMap (selectTx s)

/-- Step 6: the host write or command. -/
def writeOps (c : CycleInput) : List Instr := if isHostRead (decodeHost c.host) then [] else [decodeHost c.host]

/-- A schedule with the instruction of the opcode table whose bits are `w` as the next cycle's inputs. -/
def placeInstr (nbits w : Nat) (schedule : List CycleInput) : List CycleInput :=
  (tableInput nbits w).getD CycleInput.idle :: schedule.tail

end Sys2Proof.Machine
end

