-- ==== Sys2Proof/Machine/Dist.lean ====
section
/-! DEFINITION. DIST: the distance estimator on exact integers (43_distance.md R180 to R188) and its two commands
(R189, R190). -/

namespace Sys2Proof.Machine

/-- Entry `i` of a calibration table as an integer (R180). -/
def calInt (t : CalTable) (i : Nat) : Int := (calEntry t i).toNat

/-- `Find(T, x, ·)` (R183): the least `i` in 1..13 with `x > T[i]`. -/
def findBucket (t : CalTable) (x : Int) : Option Nat := (List.range' 1 13).find? (fun i => calInt t i < x)

/-- The rise `d` of bucket `k` (R184). -/
def bucketRise (t : CalTable) (k : Nat) : Int := calInt t k - calInt t (k - 1)

/-- The quotient of `Seg(T, x, k)` before its 8-bit reduction (R184), for a nonzero rise. -/
def segmentQuot (p : Params) (t : CalTable) (x : Int) (k : Nat) : Int :=
  let d := bucketRise t k
  let b := calInt t k - d * k
  Int.tdiv (p.distScale * (x - b)) (2 * d)

/-- `Seg(T, x, k)` (R184); `none` is DERR. `BitVec.ofInt 8` is `trunc8` (R11). -/
def segment (p : Params) (t : CalTable) (x : Int) (k : Nat) : Option Byte :=
  if 2 * bucketRise t k = 0 then none else some (BitVec.ofInt 8 (segmentQuot p t x k))

/-- What a channel contributes to the estimate. -/
inductive Channel where
  /-- The channel is not used. -/
  | off
  /-- Its estimate. -/
  | dist (d : Byte)
  /-- Its segment has a zero divisor (R188). -/
  | derr
  deriving DecidableEq, Repr

/-- A segment's value as a channel. -/
def channelOf : Option Byte → Channel
  | some d => .dist d
  | none => .derr

/-- The high-gain channel (R182): used below saturation; a search that fails extrapolates the last segment (R183). -/
def highChannel (p : Params) (h : CalTable) (hg : Int) : Channel :=
  if hg < p.hgSat then
    if hg > calInt h 0 then .dist 0 else channelOf (segment p h hg ((findBucket h hg).getD 13))
  else .off

/-- The low-gain channel (R185): used above the minimum threshold; a search that fails gives `P_LOW_FAR` (R186). -/
def lowChannel (p : Params) (l : CalTable) (hg lg : Int) : Channel :=
  if hg > p.hgMin then
    if lg > calInt l 0 then .dist 0
    else
      match findBucket l lg with
      | none => .dist (BitVec.ofNat 8 p.lowFar)
      | some k => channelOf (segment p l lg k)
  else .off

/-- The cross-fade of R187, floored. -/
def blend (p : Params) (dh dl : Byte) (hg : Int) : Int :=
  (dh.toNat * (p.hgSat - hg) + dl.toNat * (hg - p.hgMin)) / (p.hgSat - p.hgMin)

/-- The combination of R187; `none` is DERR. Both channels off cannot arise from legal parameters (R187); it gives no
value (log 17). -/
def combine (p : Params) (hg : Int) (high low : Channel) : Option Byte :=
  match high, low with
  | .derr, _ => none
  | _, .derr => none
  | .dist dh, .dist dl => some (BitVec.ofInt 8 (p.distOff + blend p dh dl hg))
  | .off, .dist dl => some (BitVec.ofInt 8 (p.distOff + dl.toNat))
  | .dist dh, .off => some (BitVec.ofInt 8 (p.distOff + dh.toNat))
  | .off, .off => none

/-- `Estimate(hg, lg)` (R187); `none` is DERR (R188). -/
def estimate (p : Params) (h l : CalTable) (hg lg : Sample) : Option Byte :=
  combine p hg.toNat (highChannel p h hg.toNat) (lowChannel p l hg.toNat lg.toNat)

/-- An estimate's end (R189): its value in `dist_out`, or on DERR a free value there and EstimatorError (R188). -/
def State.putEstimate (r : Option Byte) (s : State) : State :=
  match r with
  | some d => { s with dist := { s.dist with out := d } }
  | none => s.drawDist.raiseCause .estimatorError

/-- DIST_EST (R189): from the host's operands. -/
def execDistEst (s : State) : Host.Outcome State Fault Refusal :=
  .next (s.putEstimate (estimate s.params s.dist.calHigh s.dist.calLow s.dist.hgIn s.dist.lgIn))

/-- DIST_EST_RX (R190): from the samples of the last dispatched frame, as they stood at the start of the cycle. -/
def execDistEstRx (s : State) : Host.Outcome State Fault Refusal :=
  .next (s.putEstimate (estimate s.params s.dist.calHigh s.dist.calLow s.cyc.rxoHg s.cyc.rxoLg))

end Sys2Proof.Machine
end

