-- ==== Sys2Proof/Machine/HostAccess.lean ====
section
/-! DEFINITION. Host register access (44_host_access.md R210 to R224), but for the CRC and DIST commands. -/

namespace Sys2Proof.Machine

/-- NOP (R215): no state changes. -/
def execNop (s : State) : Host.Outcome State Fault Refusal := .next s

/-- CMD_RSV (R216): CommandError, whatever the reserved opcode. -/
def execCmdRsv (_op : Byte) (s : State) : Host.Outcome State Fault Refusal := .next (s.raiseCause .commandError)

/-- WR_STATUS (R212). -/
def execWrStatus (clr : BitVec 4) (s : State) : Host.Outcome State Fault Refusal := .next (s.clearCauses clr)

/-- WR_IRQEN (R213). -/
def execWrIrqen (en : BitVec 4) (s : State) : Host.Outcome State Fault Refusal :=
  .next { s with st := { s.st with irqen := en } }

/-- WR_DIST_HG_IN (R217). -/
def execWrDistHgIn (v : Sample) (s : State) : Host.Outcome State Fault Refusal :=
  .next { s with dist := { s.dist with hgIn := v } }

/-- WR_DIST_LG_IN (R217). -/
def execWrDistLgIn (v : Sample) (s : State) : Host.Outcome State Fault Refusal :=
  .next { s with dist := { s.dist with lgIn := v } }

/-- WR_TX_PERIOD (R218). -/
def execWrTxPeriod (p : Word) (s : State) : Host.Outcome State Fault Refusal :=
  .next { s with txb := { s.txb with period := p } }

/-- WR_CAL_HIGH (R219). -/
def execWrCalHigh (i : Fin 14) (v : Word) (s : State) : Host.Outcome State Fault Refusal :=
  .next { s with dist := { s.dist with calHigh := setCalEntry s.dist.calHigh i v } }

/-- WR_CAL_LOW (R220). -/
def execWrCalLow (i : Fin 14) (v : Word) (s : State) : Host.Outcome State Fault Refusal :=
  .next { s with dist := { s.dist with calLow := setCalEntry s.dist.calLow i v } }

/-- WR_RO (R221): CommandError, and the register is unchanged. -/
def execWrRo (_a : Addr) (s : State) : Host.Outcome State Fault Refusal := .next (s.raiseCause .commandError)

/-- WR_RSV (R222): CommandError, and no other effect. -/
def execWrRsv (_a : Addr) (s : State) : Host.Outcome State Fault Refusal := .next (s.raiseCause .commandError)

/-- RD_WO (R223): 0, and no flag. -/
def execRdWo (_a : Addr) (s : State) : Host.Outcome State Fault Refusal := .next (s.readOut 0)

/-- RD_RSV (R223): 0, and no flag. -/
def execRdRsv (_a : Addr) (s : State) : Host.Outcome State Fault Refusal := .next (s.readOut 0)

/-- RD (R210). -/
def execRd (a : Addr) (s : State) : Host.Outcome State Fault Refusal := .next (s.readOut (memRead s a))

/-- HBUS_IDLE (R224): `h_rdata` is 0 and no register changes through the host. -/
def execHbusIdle (s : State) : Host.Outcome State Fault Refusal := .next (s.readOut 0)

end Sys2Proof.Machine
end

