-- ==== Sys2Proof/Machine/ResetOp.lean ====
section
/-! DEFINITION. RESET (70_reset_and_hazards.md R260, R261). -/

namespace Sys2Proof.Machine

/-- RESET (R260): every state element of R53 takes its reset value, whatever it was. The parameters, the environment's
inputs, and the read the host made in this cycle (R261) are not the block's state and stay. -/
def execReset (s : State) : Host.Outcome State Fault Refusal :=
  .next { State.initial s.params with hRdata := s.hRdata, cyc := s.cyc, env := s.env }

end Sys2Proof.Machine
end

