-- ==== Sys2Proof/Machine/Dispatch.lean ====
section
/-! DEFINITION. One operation of one cycle: the meaning of each row of spec/opcode_table.json. -/

namespace Sys2Proof.Machine

def exec (i : Instr) (s : State) : Host.Outcome State Fault Refusal :=
  match i with
  | .nop => Sys2Proof.Machine.execNop s
  | .crcInit => Sys2Proof.Machine.execCrcInit s
  | .distEst => Sys2Proof.Machine.execDistEst s
  | .distEstRx => Sys2Proof.Machine.execDistEstRx s
  | .cmdRsv op => Sys2Proof.Machine.execCmdRsv op s
  | .wrStatus clr => Sys2Proof.Machine.execWrStatus clr s
  | .wrIrqen en => Sys2Proof.Machine.execWrIrqen en s
  | .wrCrcData d => Sys2Proof.Machine.execWrCrcData d s
  | .wrDistHgIn v => Sys2Proof.Machine.execWrDistHgIn v s
  | .wrDistLgIn v => Sys2Proof.Machine.execWrDistLgIn v s
  | .wrTxPeriod p => Sys2Proof.Machine.execWrTxPeriod p s
  | .wrCalHigh k v => Sys2Proof.Machine.execWrCalHigh k v s
  | .wrCalLow k v => Sys2Proof.Machine.execWrCalLow k v s
  | .wrRo a => Sys2Proof.Machine.execWrRo a s
  | .wrRsv a => Sys2Proof.Machine.execWrRsv a s
  | .rdWo a => Sys2Proof.Machine.execRdWo a s
  | .rdRsv a => Sys2Proof.Machine.execRdRsv a s
  | .rd a => Sys2Proof.Machine.execRd a s
  | .hbusIdle => Sys2Proof.Machine.execHbusIdle s
  | .reset => Sys2Proof.Machine.execReset s
  | .edge adc => Sys2Proof.Machine.execEdge adc s
  | .edgeDrop => Sys2Proof.Machine.execEdgeDrop s
  | .edgeStart adc => Sys2Proof.Machine.execEdgeStart adc s
  | .edgeStray => Sys2Proof.Machine.execEdgeStray s
  | .edgeData => Sys2Proof.Machine.execEdgeData s
  | .edgeStop adc => Sys2Proof.Machine.execEdgeStop adc s
  | .edgeStopLeadOk adc => Sys2Proof.Machine.execEdgeStopLeadOk adc s
  | .edgeStopCollision adc => Sys2Proof.Machine.execEdgeStopCollision adc s
  | .edgeStopByte => Sys2Proof.Machine.execEdgeStopByte s
  | .edgeStopDispatch => Sys2Proof.Machine.execEdgeStopDispatch s
  | .edgeStopCrcDrop => Sys2Proof.Machine.execEdgeStopCrcDrop s
  | .tick => Sys2Proof.Machine.execTick s
  | .rspFrame => Sys2Proof.Machine.execRspFrame s
  | .rspNone => Sys2Proof.Machine.execRspNone s
  | .doneOk => Sys2Proof.Machine.execDoneOk s
  | .doneFail rnd => Sys2Proof.Machine.execDoneFail rnd s
  | .runEligible => Sys2Proof.Machine.execRunEligible s
  | .rxTimeout => Sys2Proof.Machine.execRxTimeout s
  | .txCompare => Sys2Proof.Machine.execTxCompare s

end Sys2Proof.Machine
end

