-- ==== Sys2Proof/Machine/Phases.lean ====
section
/-! DEFINITION. One cycle as a sequence of operations, in the order of 70_reset_and_hazards.md R266 and R97. -/

namespace Sys2Proof.Machine

/-- Operations of one cycle, one after the other. -/
def runOps : List Instr → State → Host.Outcome State Fault Refusal
  | [], s => .next s
  | i :: is, s => andThen (exec i s) (runOps is)

/-- R266 steps 2 to 4: RX_TIMEOUT, the edge, the counter; `s0` is the start of the cycle. -/
def rxPhase (c : CycleInput) (s0 s : State) : Host.Outcome State Fault Refusal :=
  andThen (runOps (timeoutOps s0 ++ edgeOps c) s) fun t => .next t.countRx

/-- R266 steps 5 and 6: the level, TXB's operation, the host write. -/
def txHostPhase (c : CycleInput) (s0 s : State) : Host.Outcome State Fault Refusal :=
  runOps (levelOps c ++ txOps c s0 ++ writeOps c) s

/-- One cycle with the inputs `c`: the host read (step 1), then RESET alone (R261) or the work of the cycle. -/
def runCycle (c : CycleInput) (s0 : State) : Host.Outcome State Fault Refusal :=
  andThen (runOps (readOps c) s0) fun s =>
    if inReset c then runOps (events c) s
    else andThen (rxPhase c s0 s) (txHostPhase c s0)

end Sys2Proof.Machine
end

