-- ==== Sys2Proof/Machine/Step.lean ====
section
/-! DEFINITION. A step: one cycle of `clk` (00_scope.md R6, 70_reset_and_hazards.md R266). -/

namespace Sys2Proof.Machine

/-- One step of KBIRT: a cycle with the next inputs. Illegal parameters are refused (R10). -/
def step (s : State) : Host.Outcome State Fault Refusal :=
  if paramsLegal s.params then
    andThen (runCycle s.nextInput s.beginCycle) fun t => .next t.endCycle
  else .refused .illegalParams

/-- `s` with the instruction of the opcode table whose bits are `w` as the inputs of its next cycle. -/
def State.withFetchWord (s : State) (nbits w : Nat) : State :=
  { s with env := { s.env with schedule := placeInstr nbits w s.env.schedule } }

end Sys2Proof.Machine
end

