-- ==== Sys2Proof/Machine/Outputs.lean ====
section
/-! DEFINITION. The output ports of 10_state.md R31, functions of `S`; `h_rdata` is the field `State.hRdata`. -/

namespace Sys2Proof.Machine

/-- `adc_gain_sel` (R127). -/
def adcGainSel (s : State) : Bool := s.rxd.gainSel

/-- `rx_busy_o`. -/
def rxBusyO (s : State) : Bool := s.rxd.busy

/-- `rx_dispatch` (R129). -/
def rxDispatch (s : State) : Bool := s.st.dispPulse

/-- `rxo_frame_o`: byte 0 in bits 7:0. -/
def rxoFrameO (s : State) : BitVec 96 :=
  s.rxo.frame.toList.foldr (fun b acc => acc <<< 8 ||| b.setWidth 96) 0

/-- `rxo_hg_o`. -/
def rxoHgO (s : State) : Sample := s.rxo.hg

/-- `rxo_lg_o`. -/
def rxoLgO (s : State) : Sample := s.rxo.lg

/-- `tx_req` (R150). -/
def txReq (s : State) : Bool := s.txb.state == .waitFrame

/-- `tx_start` (R150). -/
def txStart (s : State) : Bool := s.txb.state == .waitSend

/-- `tx_success` (R150). -/
def txSuccess (s : State) : Bool := s.st.txsPulse

/-- `irq` (R234). -/
def irqO (s : State) : Bool := irqLevel s.st

end Sys2Proof.Machine
end

