-- ==== Sys2Proof/Safety.lean ====
section
/-! DEFINITION. What a good state is: the relations the spec derives for every reachable state (R23, R92, R127, R128,
R141), and what they need to be kept by a step. Then the terms the statements use: where an edge falls, what a host read
returns, and the HBUS rows of spec/opcode_table.json as they are listed there. -/

namespace Sys2Proof.Machine

/-- RXD's good states. -/
structure RxdInv (p : Params) (r : Rxd) : Prop where
  /-- R128: `rx_busy = NOT (rx_await AND rx_lead)`. -/
  busy : r.busy = !(r.await && r.lead)
  /-- R128: `rx_run = NOT (rx_await AND rx_lead)`. -/
  run : r.run = !(r.await && r.lead)
  /-- R128: `rx_run = 0` implies `rx_cnt = 0`. -/
  stopped : r.run = false → r.cnt = 0
  /-- R128: `rx_run = 1` implies `1 <= rx_cnt`. -/
  counting : r.run = true → 1 ≤ r.cnt.toNat
  /-- R128: `rx_run = 1` implies `rx_cnt <= P_TIMEOUT`. -/
  bounded : r.run = true → r.cnt.toNat ≤ p.timeout
  /-- R23: `rx_idx` is at most 11. -/
  idx : r.idx.toNat ≤ 11
  /-- R127: low gain is selected exactly inside a leading byte. -/
  gain : r.gainSel = (r.lead && !r.await)

/-- TXB's good states (R141). -/
structure TxbInv (t : Txb) : Prop where
  /-- R141: `tx_cnt <= tx_inc`. -/
  count : t.cnt.toNat ≤ t.inc.toNat
  /-- R141: `tx_cnt = 0` outside IDLE. -/
  waiting : t.state ≠ .idle → t.cnt = 0

/-- The status flags and pulses of good states: a pulse comes with its flag (R29, R124, R147), and the two pulses never
come together (R236). -/
structure StatusInv (st : Status) : Prop where
  dispatch : st.dispPulse = true → st.flags.rxv = true
  success : st.txsPulse = true → st.flags.txs = true
  apart : ¬(st.dispPulse = true ∧ st.txsPulse = true)

/-- The good states of KBIRT between cycles. -/
structure State.Inv (s : State) : Prop where
  params : paramsLegal s.params = true
  rxd : RxdInv s.params s.rxd
  txb : TxbInv s.txb
  st : StatusInv s.st
  /-- Nothing of a cycle is left over between cycles. -/
  cyc : s.cyc = CycleCtx.idle

/-- An edge now would fall inside a byte (R114, R115). -/
abbrev InByte (s : State) : Prop := s.txb.state ≠ .waitSend ∧ s.rxd.await = false

/-- An edge now would fall inside a byte's valid window, `RX_LO < t < RX_HI` (R117). -/
abbrev InWindow (s : State) : Prop :=
  InByte s ∧ rxLo s.params < s.rxd.cnt.toNat ∧ s.rxd.cnt.toNat < rxHi s.params

/-- An edge now would be a stop bit, `BitIndex(t) > 7` (R120). -/
abbrev AtStop (s : State) : Prop := InWindow s ∧ 7 < bitIndex s.params s.rxd.cnt.toNat

/-- What `h_rdata` must be in a cycle with the inputs `c` that starts in `s` (R61): `MemRead` of the address read, else 0. -/
def hostReadValue (s : State) (c : CycleInput) : Word :=
  match c.host with
  | none => 0
  | some w => if hostWe w then 0 else memRead s (hostAddr w)

/-- An operation a cycle may lack: nothing happens without it. -/
def runOption (o : Option Instr) (s : State) : Host.Outcome State Fault Refusal :=
  match o with
  | none => .next s
  | some i => exec i s

/-- The one TXB operation of a cycle with the inputs `c` that starts in `s` (R97 item 3, R141 to R149). -/
def txOperation (s : State) (c : CycleInput) : Option Instr :=
  match s.txb.state with
  | .idle => if c.evt.getLsbD 2 then some (if s.txb.cnt = s.txb.inc then .txCompare else .tick) else none
  | .waitFrame => if c.evt.getLsbD 3 then some (if c.evt.getLsbD 4 then .rspFrame else .rspNone) else none
  | .waitSend => if c.evt.getLsbD 5 then some (if c.evt.getLsbD 6 then .doneOk else .doneFail c.rnd) else none

/-- A cause is raised in a cycle without reset that starts in `s` with the inputs `c` (R230): what the rules that raise it ask
of `S` and the inputs (R124, R147, R188 to R190, R216, R221, R222). -/
def causeRaised (s : State) (c : CycleInput) : Cause → Prop
  | .frameDispatched => timeoutDue s = false ∧ c.evt.getLsbD 1 = true ∧ edgeKind s = .stopDispatch
  | .transmitSuccess => s.txb.state = .waitSend ∧ c.evt.getLsbD 5 = true ∧ c.evt.getLsbD 6 = true
  | .estimatorError =>
      (decodeHost c.host = .distEst
        ∧ estimate s.params s.dist.calHigh s.dist.calLow s.dist.hgIn s.dist.lgIn = none)
      ∨ (decodeHost c.host = .distEstRx
        ∧ estimate s.params s.dist.calHigh s.dist.calLow s.rxo.hg s.rxo.lg = none)
  | .commandError =>
      (∃ op, decodeHost c.host = .cmdRsv op) ∨ ∃ a, decodeHost c.host = .wrRo a ∨ decodeHost c.host = .wrRsv a

/-- The bits of an HBUS word its row reads (R81, R82); the others are ignored. -/
def careBits : Instr → HostWord
  | .nop | .crcInit | .distEst | .distEstRx | .cmdRsv _ | .wrCrcData _ => 0xFF00FF
  | .wrStatus _ | .wrIrqen _ => 0xFF001E
  | .wrDistHgIn _ | .wrDistLgIn _ => 0xFF03FF
  | .wrTxPeriod _ | .wrCalHigh _ _ | .wrCalLow _ _ => 0xFFFFFF
  | _ => 0xFF0000

/-- An HBUS row of spec/opcode_table.json: its match, its mask and its `addr` set. -/
structure HostRow where
  pat : HostWord
  mask : HostWord
  addrs : List Nat
  deriving DecidableEq, Repr

/-- The word is one of the row's (R97 item 4). -/
def HostRow.matchesWord (r : HostRow) (w : HostWord) : Bool :=
  (w &&& r.mask) == r.pat && r.addrs.contains (hostAddr w).toNat

/-- The 18 HBUS rows with a word, in file order. -/
def hostRows : List HostRow :=
  [ ⟨0x820000, 0xFF00FF, [0x02]⟩, ⟨0x820001, 0xFF00FF, [0x02]⟩, ⟨0x820002, 0xFF00FF, [0x02]⟩,
    ⟨0x820003, 0xFF00FF, [0x02]⟩, ⟨0x820000, 0xFF0000, [0x02]⟩, ⟨0x800000, 0xFF0000, [0x00]⟩,
    ⟨0x810000, 0xFF0000, [0x01]⟩, ⟨0x830000, 0xFF0000, [0x03]⟩, ⟨0x850000, 0xFF0000, [0x05]⟩,
    ⟨0x860000, 0xFF0000, [0x06]⟩, ⟨0x880000, 0xFF0000, [0x08]⟩, ⟨0xC00000, 0xF00000, List.range' 0x40 14⟩,
    ⟨0xD00000, 0xF00000, List.range' 0x50 14⟩, ⟨0x800000, 0x800000, roAddrs⟩, ⟨0x800000, 0x800000, rsvAddrs⟩,
    ⟨0x000000, 0x800000, woAddrs⟩, ⟨0x000000, 0x800000, rsvAddrs⟩, ⟨0x000000, 0x800000, readableAddrs⟩ ]

/-- Where an operation's row stands among `hostRows`. -/
def hostRowOf : Instr → Option Nat
  | .nop => some 0
  | .crcInit => some 1
  | .distEst => some 2
  | .distEstRx => some 3
  | .cmdRsv _ => some 4
  | .wrStatus _ => some 5
  | .wrIrqen _ => some 6
  | .wrCrcData _ => some 7
  | .wrDistHgIn _ => some 8
  | .wrDistLgIn _ => some 9
  | .wrTxPeriod _ => some 10
  | .wrCalHigh _ _ => some 11
  | .wrCalLow _ _ => some 12
  | .wrRo _ => some 13
  | .wrRsv _ => some 14
  | .rdWo _ => some 15
  | .rdRsv _ => some 16
  | .rd _ => some 17
  | _ => none

/-- A cycle without reset and without an edge. -/
def quietInput (c : CycleInput) : Bool := !c.evt.getLsbD 0 && !c.evt.getLsbD 1

/-- A cycle whose one event is a tick (R94 `tick`). -/
def tickInput : CycleInput := { CycleInput.idle with evt := 0x04 }

/-- `s` with the inputs of the coming cycles replaced. -/
def State.withInputs (s : State) (l : List CycleInput) : State := { s with env := { s.env with schedule := l } }

/-- A host operation: an HBUS row (R80). -/
def isHostOp : Instr → Bool
  | .hbusIdle => true
  | i => (hostRowOf i).isSome

/-- A TXB operation: its EVT rows and TX_COMPARE (R80). -/
def isTxOp : Instr → Bool
  | .tick | .rspFrame | .rspNone | .doneOk | .doneFail _ | .runEligible | .txCompare => true
  | _ => false

/-- An RXD operation: the EDGE rows and RX_TIMEOUT (R80). -/
def isRxOp : Instr → Bool
  | .edge _ | .edgeDrop | .edgeStart _ | .edgeStray | .edgeData | .edgeStop _ | .edgeStopLeadOk _
  | .edgeStopCollision _ | .edgeStopByte | .edgeStopDispatch | .edgeStopCrcDrop | .rxTimeout => true
  | _ => false

end Sys2Proof.Machine
end

