-- ==== Sys2Proof/Certificates/Slice0/Obligations.lean ====
section
/-! DEFINITION. The statements for the provers, one `def Obligations.<Name> : Prop` each; OBLIGATIONS.json lists them with
the rules they rest on. -/

open Sys2Proof Sys2Proof.Machine

/-! ### Decoding and encoding (30_encoding.md) -/

/-- The decoder, which sees no state, reads from an operation's encoding that operation, or for a row without an encoding
of its own the row that shares its encoding (R81 to R87, R97; logs 12, 13, 21). -/
def Obligations.DecodeEncodeAgree : Prop :=
  ∀ i : Instr, i.wellFormed = true → decodeFirst (encode i) = i.decodedAs

/-- Every HBUS word decodes, to a well-formed HBUS operation (R84: none traps). -/
def Obligations.HostWordsDecodeWellFormed : Prop :=
  ∀ w : HostWord, (decodeHostWord w).wellFormed = true ∧ (hostRowOf (decodeHostWord w)).isSome = true

/-- Decoding an HBUS word and encoding the result gives the word back but for the bits its row ignores, which become 0
(R81, R82; that ignored bits are encoded as 0 is the model's choice, log 13). -/
def Obligations.HostWordReencodes : Prop :=
  ∀ w : HostWord,
    encode (decodeHostWord w) = { CycleInput.idle with host := some (w &&& careBits (decodeHostWord w)) }

/-- The row decoded is the first of spec/opcode_table.json, in file order, that the word matches (R97 item 4). -/
def Obligations.FirstMatchingRow : Prop :=
  ∀ w : HostWord, hostRows.findIdx? (fun r => r.matchesWord w) = hostRowOf (decodeHostWord w)

/-- Words the spec writes out, and the operations they stand for (R81, R85, R165, R166, R189, R190, R213, R217 to R223;
V-H-1 to V-H-10, P1 to P3). -/
def Obligations.SpecWordsDecode : Prop :=
  decodeTableWord 24 0x820000 = some .nop ∧ decodeTableWord 24 0x820001 = some .crcInit
    ∧ decodeTableWord 24 0x820002 = some .distEst ∧ decodeTableWord 24 0x820003 = some .distEstRx
    ∧ decodeTableWord 24 0x820107 = some (.cmdRsv 0x07) ∧ decodeTableWord 24 0x80FFFF = some (.wrStatus 0xF)
    ∧ decodeTableWord 24 0x81FFFF = some (.wrIrqen 0xF) ∧ decodeTableWord 24 0x8301FF = some (.wrCrcData 0xFF)
    ∧ decodeTableWord 24 0x85FFFF = some (.wrDistHgIn 0x3FF) ∧ decodeTableWord 24 0x860258 = some (.wrDistLgIn 600)
    ∧ decodeTableWord 24 0x880F42 = some (.wrTxPeriod 3906) ∧ decodeTableWord 24 0xC003D4 = some (.wrCalHigh 0 980)
    ∧ decodeTableWord 24 0xDD00FA = some (.wrCalLow 13 250) ∧ decodeTableWord 24 0x841234 = some (.wrRo 0x04)
    ∧ decodeTableWord 24 0x8F0001 = some (.wrRsv 0x0F) ∧ decodeTableWord 24 0x020000 = some (.rdWo 0x02)
    ∧ decodeTableWord 24 0x7F0000 = some (.rdRsv 0x7F) ∧ decodeTableWord 24 0x0C0000 = some (.rd 0x0C)
    ∧ decodeTableWord 8 0x01 = some .reset ∧ decodeTableWord 8 0x02 = some (.edge 0)
    ∧ decodeTableWord 8 0x84 = some .tick ∧ decodeTableWord 8 0x98 = some .rspFrame
    ∧ decodeTableWord 8 0x88 = some .rspNone ∧ decodeTableWord 8 0xE0 = some .doneOk
    ∧ decodeTableWord 8 0xA0 = some (.doneFail 0) ∧ decodeTableWord 8 0x80 = some .runEligible

/-- Which event operations an event vector presents: bit 0 overrides the others, bit 4 counts only with bit 3 and bit 6
only with bit 5 (R85). -/
def Obligations.EventVectorDecodes : Prop :=
  ∀ (e : Byte) (adc : Sample) (rnd : Byte),
    (e.getLsbD 0 = true → decodeEvents e adc rnd = [.reset])
    ∧ (e.getLsbD 0 = false → ∀ i : Instr, i ∈ decodeEvents e adc rnd ↔
        (i = .edge adc ∧ e.getLsbD 1 = true) ∨ (i = .tick ∧ e.getLsbD 2 = true)
        ∨ (i = .rspFrame ∧ e.getLsbD 3 = true ∧ e.getLsbD 4 = true)
        ∨ (i = .rspNone ∧ e.getLsbD 3 = true ∧ e.getLsbD 4 = false)
        ∨ (i = .doneOk ∧ e.getLsbD 5 = true ∧ e.getLsbD 6 = true)
        ∨ (i = .doneFail rnd ∧ e.getLsbD 5 = true ∧ e.getLsbD 6 = false)
        ∨ (i = .runEligible ∧ e.getLsbD 7 = true))

/-! ### One cycle (R266) -/

/-- A cycle whose only input is a host access, or nothing: the step is the decoded operation, a read before the counter of
R126 and a write after it, between the start and the end of the cycle. The last clause is the model's choice (log 4): an
instruction placed by `withFetchWord` is such an input. -/
def Obligations.StepRunsHostAccess : Prop :=
  (∀ s : State, paramsLegal s.params = true → s.nextInput.evt = 0 → timeoutDue s = false →
    (isHostRead (decodeHost s.nextInput.host) = true →
      step s = andThen (exec (decodeHost s.nextInput.host) s.beginCycle) fun t => .next t.countRx.endCycle)
    ∧ (isHostRead (decodeHost s.nextInput.host) = false →
      step s = andThen (exec (decodeHost s.nextInput.host) s.beginCycle.countRx) fun t => .next t.endCycle))
  ∧ ∀ (s : State) (w : Nat),
      (s.withFetchWord 24 w).nextInput = { CycleInput.idle with host := some (BitVec.ofNat 24 w) }
      ∧ (s.withFetchWord 8 w).nextInput = { CycleInput.idle with evt := BitVec.ofNat 8 w }

/-- A cycle whose only input is one event operation: the step is that operation, RXD's before the counter of R126 and TXB's
after it, a tick as the operation `S.tx_state` selects and an event of another state ignored (R97, R149). A cycle with no
input in which the watchdog has expired: the step is RX_TIMEOUT (R87, R112). A cycle without reset and with any inputs: the
step is the operations they present, each as the decoder gives it, in the order of R266. -/
def Obligations.StepRunsEventOperation : Prop :=
  (∀ (s : State) (i : Instr), paramsLegal s.params = true → s.nextInput.host = none → timeoutDue s = false →
    decodeEvents s.nextInput.evt s.nextInput.adc s.nextInput.rnd = [i] →
    step s =
      andThen
        (match i with
        | .reset => exec .reset s.beginCycle
        | .edge adc => andThen (exec (.edge adc) s.beginCycle) fun t => .next t.countRx
        | .runEligible => exec .runEligible s.beginCycle.countRx
        | j =>
          match selectTx s j with
          | some k => exec k s.beginCycle.countRx
          | none => .next s.beginCycle.countRx)
        fun t => .next t.endCycle)
  ∧ (∀ s : State, paramsLegal s.params = true → s.nextInput.evt = 0 → s.nextInput.host = none → timeoutDue s = true →
      step s = andThen (exec .rxTimeout s.beginCycle) fun t => .next t.countRx.endCycle)
  ∧ ∀ s : State, paramsLegal s.params = true → s.nextInput.evt.getLsbD 0 = false →
      let c := s.nextInput
      let h := decodeHost c.host
      step s =
        andThen (runOption (if isHostRead h then some h else none) s.beginCycle) fun s1 =>
        andThen (runOption (if timeoutDue s then some .rxTimeout else none) s1) fun s2 =>
        andThen (runOption (if c.evt.getLsbD 1 then some (.edge c.adc) else none) s2) fun s3 =>
        andThen (runOption (if c.evt.getLsbD 7 then some .runEligible else none) s3.countRx) fun s4 =>
        andThen (runOption (txOperation s c) s4) fun s5 =>
        andThen (runOption (if isHostRead h then none else some h) s5) fun t => .next t.endCycle

/-- A timeout and an edge in one cycle: the edge is a start bit of a new leading byte (R113). -/
def Obligations.TimeoutThenStartBit : Prop :=
  ∀ s : State, paramsLegal s.params = true → timeoutDue s = true → s.txb.state ≠ .waitSend →
    s.nextInput.evt.getLsbD 0 = false → s.nextInput.evt.getLsbD 1 = true →
    ∃ t, step s = .next t
      ∧ t.rxd = { await := false, lead := true, busy := true, run := true, cnt := 1, byte := 0, idx := 0,
                  hg := s.nextInput.adc, lg := s.rxd.lg, gainSel := true, buf := s.rxd.buf }

/-- Illegal parameters are refused (R10). -/
def Obligations.IllegalParamsRefused : Prop :=
  ∀ s : State,
    (¬(2 ≤ s.params.bitTime ∧ s.params.bitTime ≤ 6898) ∨ ¬(1 ≤ s.params.timeout ∧ s.params.timeout ≤ 65535)
      ∨ ¬(s.params.hgMin < s.params.hgSat) ∨ ¬(1 ≤ s.params.distScale)) →
    step s = .refused .illegalParams

/-! ### RXD (40_rx_decoder.md) -/

/-- EDGE_START (R116), by its row and by EDGE; that the cycle remembers the load of the counter is the model's (log 3). -/
def Obligations.EdgeStartBeginsByte : Prop :=
  ∀ (s : State) (adc : Sample), s.txb.state ≠ .waitSend → s.rxd.await = true →
    let t : State :=
      { s with
        rxd :=
          { s.rxd with
            await := false, busy := true, byte := 0, run := true, cnt := 1
            hg := if s.rxd.lead = true then adc else s.rxd.hg
            gainSel := if s.rxd.lead = true then true else s.rxd.gainSel }
        cyc := { s.cyc with cntLoaded := true } }
    exec (.edgeStart adc) s = .next t ∧ exec (.edge adc) s = .next t

/-- EDGE_STRAY (R117): at or outside the bounds of the window RXD resets and keeps its samples and its buffer. -/
def Obligations.EdgeStrayAborts : Prop :=
  ∀ (s : State) (adc : Sample), InByte s →
    (s.rxd.cnt.toNat ≤ s.params.bitTime / 2
      ∨ 9 * s.params.bitTime + s.params.bitTime / 2 ≤ s.rxd.cnt.toNat) →
    let t : State :=
      { s with
        rxd :=
          { await := true, lead := true, busy := false, run := false, cnt := 0, byte := 0, idx := 0, hg := s.rxd.hg,
            lg := s.rxd.lg, gainSel := false, buf := s.rxd.buf } }
    exec .edgeStray s = .next t ∧ exec (.edge adc) s = .next t

/-- EDGE_DATA (R119): bit `b` of the byte is set, and no bit is cleared. -/
def Obligations.EdgeDataSetsBit : Prop :=
  ∀ (s : State) (adc : Sample), InWindow s → bitIndex s.params s.rxd.cnt.toNat ≤ 7 →
    ∃ v : Byte,
      (∀ k < 8, v.getLsbD k = (s.rxd.byte.getLsbD k || k == bitIndex s.params s.rxd.cnt.toNat))
      ∧ exec .edgeData s = .next { s with rxd := { s.rxd with busy := true, byte := v } }
      ∧ exec (.edge adc) s = .next { s with rxd := { s.rxd with busy := true, byte := v } }

/-- EDGE_STOP_LEAD_OK (R120, R121), by its row, by EDGE_STOP and by EDGE. -/
def Obligations.StopOfCleanLeadingByte : Prop :=
  ∀ (s : State) (adc : Sample), AtStop s → s.rxd.lead = true → s.rxd.byte = 0 →
    let t : State :=
      { s with
        rxd :=
          { s.rxd with await := true, busy := true, lg := adc, gainSel := false, lead := false, idx := 0 } }
    exec (.edgeStopLeadOk adc) s = .next t ∧ exec (.edgeStop adc) s = .next t ∧ exec (.edge adc) s = .next t

/-- EDGE_STOP_COLLISION (R120, R122): RXD resets, and only the low-gain sample is taken. -/
def Obligations.StopOfNonzeroLeadingByte : Prop :=
  ∀ (s : State) (adc : Sample), AtStop s → s.rxd.lead = true → s.rxd.byte ≠ 0 →
    let t : State :=
      { s with
        rxd :=
          { await := true, lead := true, busy := false, run := false, cnt := 0, byte := 0, idx := 0, hg := s.rxd.hg,
            lg := adc, gainSel := false, buf := s.rxd.buf } }
    exec (.edgeStopCollision adc) s = .next t ∧ exec (.edgeStop adc) s = .next t ∧ exec (.edge adc) s = .next t

/-- EDGE_STOP_BYTE (R120, R123): the byte is stored at `rx_idx` and at no other place. -/
def Obligations.StopOfPayloadByte : Prop :=
  ∀ (s : State) (adc : Sample), AtStop s → s.rxd.lead = false → s.rxd.idx.toNat ≤ 10 →
    ∃ f : Frame,
      (∀ k < 12, frameByte f k = if k = s.rxd.idx.toNat then s.rxd.byte else frameByte s.rxd.buf k)
      ∧ ∃ n : BitVec 4, n.toNat = s.rxd.idx.toNat + 1
        ∧ ∀ i ∈ [Instr.edgeStopByte, .edgeStop adc, .edge adc],
            exec i s = .next { s with rxd := { s.rxd with await := true, busy := true, buf := f, idx := n } }

/-- EDGE_STOP_DISPATCH (R120, R124): the completed frame and its samples go to RXO, RXD resets, the pulse and the cause are
raised; that the cycle remembers the cause is the model's (log 3). -/
def Obligations.LastStopDispatchesFrame : Prop :=
  ∀ (s : State) (adc : Sample) (f : Frame), AtStop s → s.rxd.lead = false → s.rxd.idx.toNat = 11 →
    (∀ k < 11, frameByte f k = frameByte s.rxd.buf k) → frameByte f 11 = s.rxd.byte → frameOk f = true →
    ∀ i ∈ [Instr.edgeStopDispatch, .edgeStop adc, .edge adc],
      exec i s = .next
        { s with
          rxd :=
            { await := true, lead := true, busy := false, run := false, cnt := 0, byte := 0, idx := 0, hg := s.rxd.hg,
              lg := s.rxd.lg, gainSel := false, buf := f }
          rxo := { frame := f, hg := s.rxd.hg, lg := s.rxd.lg }
          st := { s.st with flags := { s.st.flags with rxv := true }, dispPulse := true }
          cyc := { s.cyc with raised := { s.cyc.raised with rxv := true } } }

/-- EDGE_STOP_CRC_DROP (R120, R125): the frame is dropped, RXO keeps its values and no flag is set. -/
def Obligations.LastStopDropsBadFrame : Prop :=
  ∀ (s : State) (adc : Sample) (f : Frame), AtStop s → s.rxd.lead = false → s.rxd.idx.toNat = 11 →
    (∀ k < 11, frameByte f k = frameByte s.rxd.buf k) → frameByte f 11 = s.rxd.byte → frameOk f = false →
    ∀ i ∈ [Instr.edgeStopCrcDrop, .edgeStop adc, .edge adc],
      exec i s = .next
        { s with
          rxd :=
            { await := true, lead := true, busy := false, run := false, cnt := 0, byte := 0, idx := 0, hg := s.rxd.hg,
              lg := s.rxd.lg, gainSel := false, buf := f } }

/-- The model's choice (log 10): a stop bit with `rx_lead = 0` and `rx_idx` above 11, which R23 says never occurs,
faults. -/
def Obligations.StopBeyondBufferFaults : Prop :=
  ∀ (s : State) (adc : Sample), AtStop s → s.rxd.lead = false → 11 < s.rxd.idx.toNat →
    exec (.edgeStop adc) s = .fault .rxIdxOutOfRange ∧ exec (.edge adc) s = .fault .rxIdxOutOfRange

/-- EDGE_DROP (R114): an edge in WAIT_SEND changes nothing. -/
def Obligations.EdgeDroppedWhileSending : Prop :=
  ∀ (s : State) (adc : Sample), s.txb.state = .waitSend →
    exec .edgeDrop s = .next s ∧ exec (.edge adc) s = .next s

/-- RX_TIMEOUT (R112): at equality RXD resets and keeps its samples and its buffer; else nothing happens. -/
def Obligations.WatchdogResets : Prop :=
  ∀ s : State,
    (s.rxd.run = true → s.rxd.cnt.toNat = s.params.timeout →
      exec .rxTimeout s = .next
        { s with
          rxd :=
            { await := true, lead := true, busy := false, run := false, cnt := 0, byte := 0, idx := 0, hg := s.rxd.hg,
              lg := s.rxd.lg, gainSel := false, buf := s.rxd.buf } })
    ∧ (¬(s.rxd.run = true ∧ s.rxd.cnt.toNat = s.params.timeout) → exec .rxTimeout s = .next s)

/-- The counter over one cycle (R126): a start bit loads 1, an RxReset 0, and else a running counter advances. -/
def Obligations.CounterAdvances : Prop :=
  ∀ s t : State, step s = .next t → s.nextInput.evt.getLsbD 0 = false →
    let taken : Prop := s.nextInput.evt.getLsbD 1 = true ∧ s.txb.state ≠ .waitSend
    let started : Prop := taken ∧ (timeoutDue s = true ∨ s.rxd.await = true)
    let wasReset : Prop :=
      timeoutDue s = true ∨ (taken ∧ edgeKind s ∈ [EdgeKind.stray, .stopCollision, .stopDispatch, .stopCrcDrop])
    (started → t.rxd.cnt = 1)
    ∧ (¬started → wasReset → t.rxd.cnt = 0)
    ∧ (¬started → ¬wasReset → t.rxd.cnt = if s.rxd.run = true then s.rxd.cnt + 1 else s.rxd.cnt)

/-- BitIndex (R118): the product fits 32 bits and the index is at most 9 inside the window; the index is exact at each
whole number of bit times past `RX_LO` (D7). -/
def Obligations.BitIndexInRange : Prop :=
  ∀ p : Params, paramsLegal p = true →
    (∀ t, rxLo p < t → t < rxHi p → (t - rxLo p) * rxM p < 2 ^ 32 ∧ bitIndex p t ≤ 9)
    ∧ ∀ k, 1 ≤ k → k ≤ 8 → bitIndex p (rxLo p + k * p.bitTime) = k

/-- From a good state with the watchdog running, if no edge and no reset comes, RXD is back at waiting for a leading byte,
not busy, at the latest in the cycle after `rx_cnt` has reached `P_TIMEOUT` (R273, R112, R126). -/
def Obligations.WatchdogReturnsToIdle : Prop :=
  ∀ (s : State) (l rest : List CycleInput), s.Inv → s.rxd.run = true → (∀ c ∈ l, quietInput c = true) →
    l.length = s.params.timeout - s.rxd.cnt.toNat + 1 → s.env.schedule = l ++ rest →
    ∃ t : State, Sys2Proof.core.run l.length s = Host.Outcome.next t
      ∧ t.rxd.await = true ∧ t.rxd.lead = true ∧ t.rxd.busy = false ∧ t.rxd.run = false

/-! ### CRC (42_crc.md) -/

/-- CRC_INIT (R165) and WR_CRC_DATA (R166). -/
def Obligations.CrcEngineCommands : Prop :=
  ∀ (s : State) (d : Byte),
    exec .crcInit s = .next { s with crcAcc := 0xFFFF }
    ∧ exec (.wrCrcData d) s = .next { s with crcAcc := crcUpd s.crcAcc d }

/-- The two forms of the byte update agree (R161, which marks it as derived by an exhaustive check). -/
def Obligations.CrcFormsAgree : Prop := ∀ (c : Word) (d : Byte), crcBit c d = crcUpd c d

/-- CRC_INIT and ten writes of CRC_DATA leave in CRC_ACC the field that makes a frame of those ten bytes valid, low byte
first (R168, R164, R169). -/
def Obligations.BuiltFrameValidates : Prop :=
  ∀ (s : State) (b : List Byte) (f : Frame), b.length = 10 →
    ∃ t, runOps (.crcInit :: b.map Instr.wrCrcData) s = .next t ∧ t = { s with crcAcc := memRead t 0x04 }
      ∧ (f.toList.take 10 = b → frameByte f 10 = (memRead t 0x04).extractLsb' 0 8 →
          frameByte f 11 = (memRead t 0x04).extractLsb' 8 8 → frameOk f = true)

/-- A change within one byte of a valid frame, a single bit among them, makes the frame invalid (R169). -/
def Obligations.OneByteChangeRejected : Prop :=
  ∀ (f g : Frame) (i : Nat), frameOk f = true → f ≠ g → i < 12 →
    (∀ k < 12, k ≠ i → frameByte g k = frameByte f k) → frameOk g = false

/-! ### DIST (43_distance.md) -/

/-- The bucket search (R183): the least index in 1..13 with `x > T[i]`, or none. -/
def Obligations.BucketSearchIsLeast : Prop :=
  ∀ (t : CalTable) (x : Int),
    (∀ k, findBucket t x = some k ↔
      1 ≤ k ∧ k ≤ 13 ∧ calInt t k < x ∧ ∀ j, 1 ≤ j → j < k → x ≤ calInt t j)
    ∧ (findBucket t x = none ↔ ∀ j, 1 ≤ j → j ≤ 13 → x ≤ calInt t j)

/-- A segment at its two ends (R184): `P_DIST_SCALE * k / 2` truncated at `T[k]`, and the same for `k - 1` at `T[k - 1]`. -/
def Obligations.SegmentEndpoints : Prop :=
  ∀ (p : Params) (t : CalTable) (k : Nat), 1 ≤ k → k ≤ 13 → calInt t k ≠ calInt t (k - 1) →
    segmentQuot p t (calInt t k) k = (p.distScale * k / 2 : Nat)
    ∧ segmentQuot p t (calInt t (k - 1)) k = (p.distScale * (k - 1) / 2 : Nat)

/-- Inside a falling segment the estimate lies between the values at its ends (R192). -/
def Obligations.SegmentBetweenEnds : Prop :=
  ∀ (p : Params) (t : CalTable) (x : Int) (k : Nat), 1 ≤ k → k ≤ 13 → calInt t k < calInt t (k - 1) →
    calInt t k < x → x ≤ calInt t (k - 1) →
    (p.distScale * (k - 1) / 2 : Nat) ≤ segmentQuot p t x k ∧ segmentQuot p t x k ≤ (p.distScale * k / 2 : Nat)

/-- The cross-fade lies between the two channels' estimates (R187, corner cases). -/
def Obligations.BlendBetweenChannels : Prop :=
  ∀ (p : Params) (dh dl : Byte) (hg : Int), (p.hgMin : Int) < hg → hg < p.hgSat →
    (min dh.toNat dl.toNat : Int) ≤ blend p dh dl hg ∧ blend p dh dl hg ≤ (max dh.toNat dl.toNat : Int)

/-- When the estimator reports a zero divisor (R188): the high channel is used, no entry of its table is below the sample,
and its last segment is flat. -/
def Obligations.EstimateErrorIff : Prop :=
  ∀ (p : Params) (h l : CalTable) (hg lg : Sample), paramsLegal p = true →
    (estimate p h l hg lg = none ↔
      hg.toNat < p.hgSat ∧ (∀ i, i ≤ 13 → (hg.toNat : Int) ≤ calInt h i) ∧ calInt h 13 = calInt h 12)

/-- The estimate falls as the high-gain sample rises, for a strictly falling table and samples above its last entry that
use the high channel alone (R192); the premise on the scale keeps the 8-bit reduction out of play. -/
def Obligations.EstimateMonotone : Prop :=
  ∀ (p : Params) (h l : CalTable) (hg hg' lg lg' : Sample) (d d' : Byte), paramsLegal p = true →
    p.distOff + p.distScale * 13 / 2 ≤ 255 → (∀ i, 1 ≤ i → i ≤ 13 → calInt h i < calInt h (i - 1)) →
    calInt h 13 < hg.toNat → hg.toNat ≤ hg'.toNat → hg'.toNat ≤ p.hgMin →
    estimate p h l hg lg = some d → estimate p h l hg' lg' = some d' → d'.toNat ≤ d.toNat

/-- DIST_EST (R189) and DIST_EST_RX (R190), the latter on the samples of the cycle's start: the estimate in `dist_out`, or
on a zero divisor some value there and EstimatorError (R188). The latched samples, the remembered cause and the counter of
draws are the model's (logs 2, 3, 5). Over a whole cycle without reset, with whatever events: the samples of DIST_EST_RX are
those `S` holds, also where the cycle dispatches a frame (R190). -/
def Obligations.DistanceCommands : Prop :=
  (∀ (s : State) (i : Instr) (hg lg : Sample),
    (i = .distEst ∧ hg = s.dist.hgIn ∧ lg = s.dist.lgIn)
      ∨ (i = .distEstRx ∧ hg = s.cyc.rxoHg ∧ lg = s.cyc.rxoLg) →
    (∀ d, estimate s.params s.dist.calHigh s.dist.calLow hg lg = some d →
      exec i s = .next { s with dist := { s.dist with out := d } })
    ∧ (estimate s.params s.dist.calHigh s.dist.calLow hg lg = none →
      ∃ v : Byte, exec i s = .next
        { s with
          dist := { s.dist with out := v }
          st := { s.st with flags := { s.st.flags with derr := true } }
          cyc := { s.cyc with raised := { s.cyc.raised with derr := true } }
          env := { s.env with draws := s.env.draws + 1 } }))
  ∧ ∀ (s t : State) (hg lg : Sample), step s = .next t → s.nextInput.evt.getLsbD 0 = false →
    (decodeHost s.nextInput.host = .distEst ∧ hg = s.dist.hgIn ∧ lg = s.dist.lgIn)
      ∨ (decodeHost s.nextInput.host = .distEstRx ∧ hg = s.rxo.hg ∧ lg = s.rxo.lg) →
    (∀ d, estimate s.params s.dist.calHigh s.dist.calLow hg lg = some d →
      t.dist = { s.dist with out := d } ∧ t.st.flags.derr = s.st.flags.derr)
    ∧ (estimate s.params s.dist.calHigh s.dist.calLow hg lg = none →
      t.st.flags.derr = true ∧ ∃ v : Byte, t.dist = { s.dist with out := v })

/-! ### TXB (41_tx_scheduler.md) -/

/-- TICK (R141): inside an interval it counts; at its end it is TX_COMPARE. -/
def Obligations.TickCountsInIdle : Prop :=
  ∀ s : State, s.txb.state = .idle →
    (s.txb.cnt ≠ s.txb.inc → exec .tick s = .next { s with txb := { s.txb with cnt := s.txb.cnt + 1 } })
    ∧ (s.txb.cnt = s.txb.inc → exec .tick s = exec .txCompare s)

/-- TX_COMPARE (R142 to R144): the wait accumulates modulo 2^16, and TXB asks for a frame only if the receiver was not busy
at the start of the cycle, the wait exceeds TX_PERIOD, and the robot may transmit. The latches of the cycle
are the model's (logs 2, 16). Over a whole cycle without reset that starts at the end of an interval and has a tick: the
same on `S.rx_busy`, `S.tx_period` and bit 7 of the event vector, whatever edge or host access the cycle has. -/
def Obligations.CompareDecides : Prop :=
  (∀ s : State, s.txb.state = .idle → s.txb.cnt = s.txb.inc →
    ∃ a : Word, a.toNat = (s.txb.acc.toNat + s.txb.inc.toNat) % 2 ^ 16
      ∧ exec .txCompare s = .next
          { s with
            txb :=
              { s.txb with
                cnt := 0, acc := a, inc := 0xFF
                state :=
                  if s.cyc.rxBusy = false ∧ s.txb.period.toNat < a.toNat ∧ s.cyc.runEligible = true then .waitFrame
                  else .idle } })
  ∧ ∀ s t : State, step s = .next t → s.nextInput.evt.getLsbD 0 = false → s.nextInput.evt.getLsbD 2 = true →
    s.txb.state = .idle → s.txb.cnt = s.txb.inc →
    ∃ a : Word, a.toNat = (s.txb.acc.toNat + s.txb.inc.toNat) % 2 ^ 16
      ∧ t.txb.cnt = 0 ∧ t.txb.acc = a ∧ t.txb.inc = 0xFF
      ∧ (t.txb.state = .waitFrame ↔
          s.rxd.busy = false ∧ s.txb.period.toNat < a.toNat ∧ s.nextInput.evt.getLsbD 7 = true)
      ∧ (t.txb.state ≠ .waitFrame → t.txb.state = .idle)

/-- RSP_FRAME (R145), RSP_NONE (R146), DONE_OK (R147), DONE_FAIL (R148) in their states; that the cycle remembers the cause
is the model's (log 3). -/
def Obligations.HandshakeAnswers : Prop :=
  ∀ (s : State) (rnd : Byte),
    (s.txb.state = .waitFrame →
      exec .rspFrame s = .next { s with txb := { s.txb with state := .waitSend } }
      ∧ exec .rspNone s = .next { s with txb := { s.txb with state := .idle } })
    ∧ (s.txb.state = .waitSend →
      exec .doneOk s = .next
        { s with
          txb := { s.txb with acc := 0, state := .idle }
          st := { s.st with flags := { s.st.flags with txs := true }, txsPulse := true }
          cyc := { s.cyc with raised := { s.cyc.raised with txs := true } } }
      ∧ exec (.doneFail rnd) s = .next { s with txb := { s.txb with inc := rnd, state := .idle } })

/-- Inputs that do not apply to TXB's state change nothing (R149), and RUN_ELIGIBLE only presents its level to the compare
of its cycle (R143; log 16). -/
def Obligations.TxInputsIgnoredElsewhere : Prop :=
  ∀ (s : State) (rnd : Byte),
    (s.txb.state ≠ .idle → exec .tick s = .next s ∧ exec .txCompare s = .next s)
    ∧ (s.txb.state ≠ .waitFrame → exec .rspFrame s = .next s ∧ exec .rspNone s = .next s)
    ∧ (s.txb.state ≠ .waitSend → exec .doneOk s = .next s ∧ exec (.doneFail rnd) s = .next s)
    ∧ exec .runEligible s = .next { s with cyc := { s.cyc with runEligible := true } }

/-- No cycle that starts with the receiver busy, or with the period at 0xFFFF, takes TXB from IDLE to WAIT_FRAME (R71, R143,
R151). -/
def Obligations.NoRequestWhileBusy : Prop :=
  ∀ s t : State, step s = .next t → s.txb.state = .idle → s.rxd.busy = true ∨ s.txb.period = 0xFFFF →
    t.txb.state = .idle

/-- An interval lasts `tx_inc + 1` ticks (R140, R141): `k` ticks short of its end only count, and the next one adds `tx_inc`
to the wait and starts an interval of 256. -/
def Obligations.IntervalLength : Prop :=
  ∀ (s : State) (k : Nat) (rest : List CycleInput), s.Inv → s.txb.state = .idle →
    s.txb.cnt.toNat + k ≤ s.txb.inc.toNat + 1 → s.env.schedule = List.replicate k tickInput ++ rest →
    ∃ t : State, Sys2Proof.core.run k s = Host.Outcome.next t
      ∧ (s.txb.cnt.toNat + k ≤ s.txb.inc.toNat →
          t.txb.cnt.toNat = s.txb.cnt.toNat + k ∧ t.txb.inc = s.txb.inc ∧ t.txb.acc = s.txb.acc
          ∧ t.txb.state = .idle)
      ∧ (s.txb.cnt.toNat + k = s.txb.inc.toNat + 1 →
          t.txb.cnt = 0 ∧ t.txb.inc = 0xFF
          ∧ t.txb.acc.toNat = (s.txb.acc.toNat + s.txb.inc.toNat) % 2 ^ 16 ∧ t.txb.state = .idle)

/-! ### Host access (44_host_access.md, 10_state.md) -/

/-- WR_STATUS (R212): flag by flag; the causes raised in the cycle stand in the model's `cyc` (log 3). -/
def Obligations.StatusWriteClears : Prop :=
  ∀ (s : State) (clr : BitVec 4),
    ∃ f : Flags,
      (∀ c : Cause, getFlag f c =
        if getFlag s.cyc.raised c = true then true
        else if clr.getLsbD (causeCode c - 1) = true then false else getFlag s.st.flags c)
      ∧ exec (.wrStatus clr) s = .next { s with st := { s.st with flags := f } }

/-- WR_IRQEN (R213), WR_DIST_HG_IN and WR_DIST_LG_IN (R217), WR_TX_PERIOD (R218), with what the register then reads. -/
def Obligations.ConfigWritesStore : Prop :=
  ∀ (s : State) (en : BitVec 4) (v : Sample) (p : Word),
    (∃ t, exec (.wrIrqen en) s = .next t ∧ t = { s with st := { s.st with irqen := en } }
      ∧ (memRead t 0x01).toNat = 2 * en.toNat)
    ∧ (∃ t, exec (.wrDistHgIn v) s = .next t ∧ t = { s with dist := { s.dist with hgIn := v } }
      ∧ (memRead t 0x05).toNat = v.toNat)
    ∧ (∃ t, exec (.wrDistLgIn v) s = .next t ∧ t = { s with dist := { s.dist with lgIn := v } }
      ∧ (memRead t 0x06).toNat = v.toNat)
    ∧ (∃ t, exec (.wrTxPeriod p) s = .next t ∧ t = { s with txb := { s.txb with period := p } }
      ∧ memRead t 0x08 = p)

/-- WR_CAL_HIGH (R219) and WR_CAL_LOW (R220): the entry reads the written value, and every other address and every other
element is as before. -/
def Obligations.CalibrationWritesStore : Prop :=
  ∀ (s : State) (i : Fin 14) (v : Word),
    (∃ t, exec (.wrCalHigh i v) s = .next t
      ∧ (∀ a : Addr, memRead t a = if a.toNat = 0x40 + i.val then v else memRead s a)
      ∧ t = { s with dist := { s.dist with calHigh := t.dist.calHigh } })
    ∧ (∃ t, exec (.wrCalLow i v) s = .next t
      ∧ (∀ a : Addr, memRead t a = if a.toNat = 0x50 + i.val then v else memRead s a)
      ∧ t = { s with dist := { s.dist with calLow := t.dist.calLow } })

/-- CMD_RSV (R216), WR_RO (R221) and WR_RSV (R222) raise CommandError and change nothing else; NOP (R215) changes
nothing. That the cycle remembers the cause is the model's (log 3). -/
def Obligations.IllegalWritesOnlyFlag : Prop :=
  ∀ (s : State) (op : Byte) (a : Addr),
    (∀ i ∈ [Instr.cmdRsv op, .wrRo a, .wrRsv a],
      exec i s = .next
        { s with
          st := { s.st with flags := { s.st.flags with cerr := true } }
          cyc := { s.cyc with raised := { s.cyc.raised with cerr := true } } })
    ∧ exec .nop s = .next s

/-- RD (R210), RD_WO and RD_RSV (R223), HBUS_IDLE (R224) give `h_rdata` its value and change nothing (R67); a write-only or
reserved address reads 0. -/
def Obligations.ReadsHaveNoEffect : Prop :=
  ∀ (s : State) (a : Addr),
    exec (.rd a) s = .next { s with hRdata := memRead s a }
    ∧ (∀ i ∈ [Instr.rdWo a, .rdRsv a, .hbusIdle], exec i s = .next { s with hRdata := 0 })
    ∧ (a.toNat ∈ woAddrs ∨ a.toNat ∈ rsvAddrs → memRead s a = 0)

/-- The fields of every readable register (R33, R34, R37 to R51); TXST reads 0, 1 and 2 in IDLE, WAIT_FRAME and WAIT_SEND
(R28, R140). -/
def Obligations.RegisterFields : Prop :=
  ∀ s : State,
    (memRead s 0x00).toNat =
      s.rxd.busy.toNat + 2 * s.st.flags.rxv.toNat + 4 * s.st.flags.txs.toNat + 8 * s.st.flags.derr.toNat
        + 16 * s.st.flags.cerr.toNat + 32 * (match s.txb.state with | .idle => 0 | .waitFrame => 1 | .waitSend => 2) + 128 * s.rxd.gainSel.toNat
    ∧ (memRead s 0x01).toNat = 2 * s.st.irqen.toNat ∧ memRead s 0x04 = s.crcAcc
    ∧ (memRead s 0x05).toNat = s.dist.hgIn.toNat ∧ (memRead s 0x06).toNat = s.dist.lgIn.toNat
    ∧ (memRead s 0x07).toNat = s.dist.out.toNat ∧ memRead s 0x08 = s.txb.period ∧ memRead s 0x09 = s.txb.acc
    ∧ (memRead s 0x0A).toNat = s.txb.inc.toNat ∧ (memRead s 0x0B).toNat = s.txb.cnt.toNat
    ∧ (memRead s 0x0C).toNat =
      s.rxd.await.toNat + 2 * s.rxd.lead.toNat + 4 * s.rxd.busy.toNat + 8 * s.rxd.run.toNat + 16 * s.rxd.idx.toNat
        + 256 * s.rxd.gainSel.toNat
    ∧ memRead s 0x0D = s.rxd.cnt ∧ (memRead s 0x0E).toNat = s.rxd.byte.toNat
    ∧ (memRead s 0x10).toNat = s.rxd.hg.toNat ∧ (memRead s 0x11).toNat = s.rxd.lg.toNat
    ∧ (memRead s 0x12).toNat = s.rxo.hg.toNat ∧ (memRead s 0x13).toNat = s.rxo.lg.toNat
    ∧ (∀ i : Fin 12, (memRead s (BitVec.ofNat 7 (0x20 + i.val))).toNat = s.rxd.buf[i].toNat)
    ∧ (∀ i : Fin 12, (memRead s (BitVec.ofNat 7 (0x30 + i.val))).toNat = s.rxo.frame[i].toNat)
    ∧ (∀ i : Fin 14, memRead s (BitVec.ofNat 7 (0x40 + i.val)) = s.dist.calHigh[i])
    ∧ ∀ i : Fin 14, memRead s (BitVec.ofNat 7 (0x50 + i.val)) = s.dist.calLow[i]

/-- The output port `h_rdata` in every cycle, a reset cycle too: `MemRead` from `S` on a read, else 0 (R61). -/
def Obligations.HostReadSeesCycleStart : Prop :=
  ∀ s t : State, step s = .next t → t.hRdata = hostReadValue s s.nextInput

/-- The output ports (R31, R234). -/
def Obligations.OutputPorts : Prop :=
  ∀ s : State,
    adcGainSel s = s.rxd.gainSel ∧ rxBusyO s = s.rxd.busy ∧ rxDispatch s = s.st.dispPulse
    ∧ (∀ i : Fin 12, (rxoFrameO s).extractLsb' (8 * i.val) 8 = s.rxo.frame[i])
    ∧ rxoHgO s = s.rxo.hg ∧ rxoLgO s = s.rxo.lg ∧ (txReq s = true ↔ s.txb.state = .waitFrame)
    ∧ (txStart s = true ↔ s.txb.state = .waitSend) ∧ txSuccess s = s.st.txsPulse
    ∧ (irqO s = true ↔ ∃ c : Cause, getFlag s.st.flags c = true ∧ s.st.irqen.getLsbD (causeCode c - 1) = true)

/-! ### Status flags, units and inputs over whole cycles -/

/-- Only the host's W1C write and a reset clear a flag (R233): in any other cycle a set flag stays set. -/
def Obligations.FlagsAreSticky : Prop :=
  ∀ (s t : State) (c : Cause), step s = .next t → s.nextInput.evt.getLsbD 0 = false → getFlag s.st.flags c = true →
    (∀ clr, decodeHost s.nextInput.host = .wrStatus clr → clr.getLsbD (causeCode c - 1) = false) →
    getFlag t.st.flags c = true

/-- The flags and the pulses after a cycle without reset, whatever its inputs (R233, R29): a flag is set if its cause is
raised in the cycle, whatever the host clears, else clear if the host writes a 1 to it, else as it was; a pulse is 1 exactly
if its event happened in the cycle. -/
def Obligations.RaisedCauseWins : Prop :=
  ∀ s t : State, step s = .next t → s.nextInput.evt.getLsbD 0 = false →
    (∀ k : Cause,
      (causeRaised s s.nextInput k → getFlag t.st.flags k = true)
      ∧ (¬causeRaised s s.nextInput k →
        ((∃ clr, decodeHost s.nextInput.host = .wrStatus clr ∧ clr.getLsbD (causeCode k - 1) = true) →
          getFlag t.st.flags k = false)
        ∧ (¬(∃ clr, decodeHost s.nextInput.host = .wrStatus clr ∧ clr.getLsbD (causeCode k - 1) = true) →
          getFlag t.st.flags k = getFlag s.st.flags k)))
    ∧ (t.st.dispPulse = true ↔ causeRaised s s.nextInput .frameDispatched)
    ∧ (t.st.txsPulse = true ↔ causeRaised s s.nextInput .transmitSuccess)

/-- The units write disjoint state (R22, R25, R130, R167, R266): a host operation leaves RXD, RXO and TXB's counters; a TXB
operation leaves RXD, RXO, CRC, DIST and the configuration; an RXD operation leaves CRC, DIST and TXB; only the CRC
commands write `crc_acc`, and only a dispatch writes RXO. -/
def Obligations.UnitsWriteDisjointState : Prop :=
  ∀ (i : Instr) (s t : State), exec i s = .next t →
    (isHostOp i = true → t.rxd = s.rxd ∧ t.rxo = s.rxo ∧ t.txb = { s.txb with period := t.txb.period }
      ∧ t.st.dispPulse = s.st.dispPulse ∧ t.st.txsPulse = s.st.txsPulse)
    ∧ (isTxOp i = true → t.rxd = s.rxd ∧ t.rxo = s.rxo ∧ t.crcAcc = s.crcAcc ∧ t.dist = s.dist
      ∧ t.txb.period = s.txb.period ∧ t.st.irqen = s.st.irqen ∧ t.hRdata = s.hRdata)
    ∧ (isRxOp i = true → t.crcAcc = s.crcAcc ∧ t.dist = s.dist ∧ t.txb = s.txb ∧ t.st.irqen = s.st.irqen
      ∧ t.hRdata = s.hRdata)
    ∧ (t.crcAcc ≠ s.crcAcc → i = .reset ∨ i = .crcInit ∨ ∃ d, i = .wrCrcData d)
    ∧ (t.rxo ≠ s.rxo → i = .reset ∨ (isRxOp i = true ∧ edgeKind s = .stopDispatch))
    ∧ t.params = s.params

/-- While TXB is in WAIT_SEND, edges make no difference to a cycle (R114). -/
def Obligations.EdgesInvisibleWhileSending : Prop :=
  ∀ (s : State) (c : CycleInput) (adc : Sample) (rest : List CycleInput), s.txb.state = .waitSend →
    step (s.withInputs (c :: rest)) = step (s.withInputs ({ c with evt := c.evt ^^^ 0x02, adc := adc } :: rest))

/-- `adc_data` and `rnd` have no effect in cycles in which no rule reads them (R86): `rnd` but in the cycle of a send's
failure; `adc_data` but in that of a start bit or a stop bit of a leading byte. -/
def Obligations.DrawsReadOnlyWhereStated : Prop :=
  ∀ (s : State) (c : CycleInput) (rest : List CycleInput),
    (∀ rnd : Byte,
      ¬(c.evt.getLsbD 0 = false ∧ s.txb.state = .waitSend ∧ c.evt.getLsbD 5 = true ∧ c.evt.getLsbD 6 = false) →
      step (s.withInputs (c :: rest)) = step (s.withInputs ({ c with rnd := rnd } :: rest)))
    ∧ ∀ adc : Sample,
      c.evt.getLsbD 0 = true ∨ c.evt.getLsbD 1 = false ∨ s.txb.state = .waitSend
        ∨ (timeoutDue s = false ∧ (s.rxd.lead = false ∨ edgeKind s = .stray ∨ edgeKind s = .data)) →
      step (s.withInputs (c :: rest)) = step (s.withInputs ({ c with adc := adc } :: rest))

/-! ### Reset and good states -/

/-- RESET gives every element of R53 its reset value, whatever the state (R260). -/
def Obligations.ResetValues : Prop :=
  ∀ s : State, ∃ t, exec .reset s = .next t
    ∧ t.rxd.await = true ∧ t.rxd.lead = true ∧ t.rxd.busy = false ∧ t.rxd.run = false ∧ t.rxd.cnt = 0 ∧ t.rxd.byte = 0
    ∧ t.rxd.idx = 0 ∧ t.rxd.hg = 0 ∧ t.rxd.lg = 0 ∧ t.rxd.gainSel = false ∧ (∀ i : Fin 12, t.rxd.buf[i] = 0)
    ∧ (∀ i : Fin 12, t.rxo.frame[i] = 0) ∧ t.rxo.hg = 0 ∧ t.rxo.lg = 0 ∧ t.crcAcc = 0xFFFF
    ∧ (∀ i : Fin 14, t.dist.calHigh[i] = 0 ∧ t.dist.calLow[i] = 0) ∧ t.dist.hgIn = 0 ∧ t.dist.lgIn = 0
    ∧ t.dist.out = 0 ∧ t.txb.state = .idle ∧ t.txb.cnt = 0 ∧ t.txb.inc = 0xFF ∧ t.txb.acc = 0
    ∧ t.txb.period = s.params.txPeriodRst ∧ (∀ c : Cause, getFlag t.st.flags c = false) ∧ t.st.irqen = 0
    ∧ t.st.dispPulse = false ∧ t.st.txsPulse = false

/-- A reset cycle (R260, R261): the next state is the reset state whatever the state and the other inputs were, and the host
still reads `S`. What the equality says of the model's own fields is the model's: the inputs to come and the counters (logs 4,
24), and `h_rdata` kept in State (logs 15, 20). -/
def Obligations.ResetCycleOverrides : Prop :=
  ∀ s : State, paramsLegal s.params = true → s.nextInput.evt.getLsbD 0 = true →
    step s = .next
      { State.initial s.params with
        hRdata := hostReadValue s s.nextInput
        env := { schedule := s.env.schedule.tail, cycle := s.env.cycle + 1, draws := s.env.draws } }

/-- The state after reset is good, under every legal parameter set (R53, R128, R141). -/
def Obligations.ResetStateIsGood : Prop :=
  State.reset.Inv ∧ ∀ p : Params, paramsLegal p = true → (State.initial p).Inv

/-- A step keeps a good state good (R23, R92, R127, R128, R141, R236). -/
def Obligations.StepKeepsGoodStates : Prop := ∀ s t : State, s.Inv → step s = .next t → t.Inv

/-- From a good state every cycle completes, whatever the inputs: nothing traps and nothing stops (R238). -/
def Obligations.GoodStatesNeverStop : Prop := ∀ s : State, s.Inv → ∃ t, step s = .next t

/-- Every operation answers a next state unless `rx_idx` is above 11 (R80, R238). -/
def Obligations.EveryOperationCompletes : Prop :=
  ∀ (i : Instr) (s : State), s.rxd.idx.toNat ≤ 11 → ∃ t, exec i s = .next t
end

