-- ==== Sys2Proof/Laws/State.lean ====
section
/-! SUPPORT. One lemma per field per update of State: what each named update of Machine/ leaves alone and what it writes. -/

namespace Sys2Proof.Machine

section raiseCause

@[simp] theorem State.raiseCause_rxd (c : Cause) (s : State) : (s.raiseCause c).rxd = s.rxd := rfl
@[simp] theorem State.raiseCause_rxo (c : Cause) (s : State) : (s.raiseCause c).rxo = s.rxo := rfl
@[simp] theorem State.raiseCause_crcAcc (c : Cause) (s : State) : (s.raiseCause c).crcAcc = s.crcAcc := rfl
@[simp] theorem State.raiseCause_dist (c : Cause) (s : State) : (s.raiseCause c).dist = s.dist := rfl
@[simp] theorem State.raiseCause_txb (c : Cause) (s : State) : (s.raiseCause c).txb = s.txb := rfl
@[simp] theorem State.raiseCause_st (c : Cause) (s : State) :
    (s.raiseCause c).st = { s.st with flags := setFlag s.st.flags c } :=
  rfl
@[simp] theorem State.raiseCause_hRdata (c : Cause) (s : State) : (s.raiseCause c).hRdata = s.hRdata := rfl
@[simp] theorem State.raiseCause_params (c : Cause) (s : State) : (s.raiseCause c).params = s.params := rfl
@[simp] theorem State.raiseCause_cyc (c : Cause) (s : State) :
    (s.raiseCause c).cyc = { s.cyc with raised := setFlag s.cyc.raised c } :=
  rfl
@[simp] theorem State.raiseCause_env (c : Cause) (s : State) : (s.raiseCause c).env = s.env := rfl

end raiseCause

section clearCauses

@[simp] theorem State.clearCauses_rxd (clr : BitVec 4) (s : State) : (s.clearCauses clr).rxd = s.rxd := rfl
@[simp] theorem State.clearCauses_rxo (clr : BitVec 4) (s : State) : (s.clearCauses clr).rxo = s.rxo := rfl
@[simp] theorem State.clearCauses_crcAcc (clr : BitVec 4) (s : State) : (s.clearCauses clr).crcAcc = s.crcAcc := rfl
@[simp] theorem State.clearCauses_dist (clr : BitVec 4) (s : State) : (s.clearCauses clr).dist = s.dist := rfl
@[simp] theorem State.clearCauses_txb (clr : BitVec 4) (s : State) : (s.clearCauses clr).txb = s.txb := rfl
@[simp] theorem State.clearCauses_st (clr : BitVec 4) (s : State) :
    (s.clearCauses clr).st = { s.st with flags := flagsAfterClear s.cyc.raised clr s.st.flags } :=
  rfl
@[simp] theorem State.clearCauses_hRdata (clr : BitVec 4) (s : State) : (s.clearCauses clr).hRdata = s.hRdata := rfl
@[simp] theorem State.clearCauses_params (clr : BitVec 4) (s : State) : (s.clearCauses clr).params = s.params := rfl
@[simp] theorem State.clearCauses_cyc (clr : BitVec 4) (s : State) : (s.clearCauses clr).cyc = s.cyc := rfl
@[simp] theorem State.clearCauses_env (clr : BitVec 4) (s : State) : (s.clearCauses clr).env = s.env := rfl

end clearCauses

section rxReset

@[simp] theorem State.rxReset_rxd (s : State) :
    (s.rxReset).rxd = { s.rxd with await := true, lead := true, busy := false, run := false, cnt := 0, byte := 0, idx := 0, gainSel := false } :=
  rfl
@[simp] theorem State.rxReset_rxo (s : State) : (s.rxReset).rxo = s.rxo := rfl
@[simp] theorem State.rxReset_crcAcc (s : State) : (s.rxReset).crcAcc = s.crcAcc := rfl
@[simp] theorem State.rxReset_dist (s : State) : (s.rxReset).dist = s.dist := rfl
@[simp] theorem State.rxReset_txb (s : State) : (s.rxReset).txb = s.txb := rfl
@[simp] theorem State.rxReset_st (s : State) : (s.rxReset).st = s.st := rfl
@[simp] theorem State.rxReset_hRdata (s : State) : (s.rxReset).hRdata = s.hRdata := rfl
@[simp] theorem State.rxReset_params (s : State) : (s.rxReset).params = s.params := rfl
@[simp] theorem State.rxReset_cyc (s : State) : (s.rxReset).cyc = s.cyc := rfl
@[simp] theorem State.rxReset_env (s : State) : (s.rxReset).env = s.env := rfl

end rxReset

section countRx

@[simp] theorem State.countRx_rxd (s : State) :
    (s.countRx).rxd = if s.rxd.run && !s.cyc.cntLoaded then { s.rxd with cnt := s.rxd.cnt + 1 } else s.rxd :=
  by unfold State.countRx; split <;> rfl
@[simp] theorem State.countRx_rxo (s : State) : (s.countRx).rxo = s.rxo := by unfold State.countRx; split <;> rfl
@[simp] theorem State.countRx_crcAcc (s : State) : (s.countRx).crcAcc = s.crcAcc := by unfold State.countRx; split <;> rfl
@[simp] theorem State.countRx_dist (s : State) : (s.countRx).dist = s.dist := by unfold State.countRx; split <;> rfl
@[simp] theorem State.countRx_txb (s : State) : (s.countRx).txb = s.txb := by unfold State.countRx; split <;> rfl
@[simp] theorem State.countRx_st (s : State) : (s.countRx).st = s.st := by unfold State.countRx; split <;> rfl
@[simp] theorem State.countRx_hRdata (s : State) : (s.countRx).hRdata = s.hRdata := by unfold State.countRx; split <;> rfl
@[simp] theorem State.countRx_params (s : State) : (s.countRx).params = s.params := by unfold State.countRx; split <;> rfl
@[simp] theorem State.countRx_cyc (s : State) : (s.countRx).cyc = s.cyc := by unfold State.countRx; split <;> rfl
@[simp] theorem State.countRx_env (s : State) : (s.countRx).env = s.env := by unfold State.countRx; split <;> rfl

end countRx

section readOut

@[simp] theorem State.readOut_rxd (v : Word) (s : State) : (s.readOut v).rxd = s.rxd := rfl
@[simp] theorem State.readOut_rxo (v : Word) (s : State) : (s.readOut v).rxo = s.rxo := rfl
@[simp] theorem State.readOut_crcAcc (v : Word) (s : State) : (s.readOut v).crcAcc = s.crcAcc := rfl
@[simp] theorem State.readOut_dist (v : Word) (s : State) : (s.readOut v).dist = s.dist := rfl
@[simp] theorem State.readOut_txb (v : Word) (s : State) : (s.readOut v).txb = s.txb := rfl
@[simp] theorem State.readOut_st (v : Word) (s : State) : (s.readOut v).st = s.st := rfl
@[simp] theorem State.readOut_hRdata (v : Word) (s : State) :
    (s.readOut v).hRdata = v :=
  rfl
@[simp] theorem State.readOut_params (v : Word) (s : State) : (s.readOut v).params = s.params := rfl
@[simp] theorem State.readOut_cyc (v : Word) (s : State) : (s.readOut v).cyc = s.cyc := rfl
@[simp] theorem State.readOut_env (v : Word) (s : State) : (s.readOut v).env = s.env := rfl

end readOut

section drawDist

@[simp] theorem State.drawDist_rxd (s : State) : (s.drawDist).rxd = s.rxd := rfl
@[simp] theorem State.drawDist_rxo (s : State) : (s.drawDist).rxo = s.rxo := rfl
@[simp] theorem State.drawDist_crcAcc (s : State) : (s.drawDist).crcAcc = s.crcAcc := rfl
@[simp] theorem State.drawDist_dist (s : State) :
    (s.drawDist).dist = { s.dist with out := Config.draw8 s.env.draws } :=
  rfl
@[simp] theorem State.drawDist_txb (s : State) : (s.drawDist).txb = s.txb := rfl
@[simp] theorem State.drawDist_st (s : State) : (s.drawDist).st = s.st := rfl
@[simp] theorem State.drawDist_hRdata (s : State) : (s.drawDist).hRdata = s.hRdata := rfl
@[simp] theorem State.drawDist_params (s : State) : (s.drawDist).params = s.params := rfl
@[simp] theorem State.drawDist_cyc (s : State) : (s.drawDist).cyc = s.cyc := rfl
@[simp] theorem State.drawDist_env (s : State) :
    (s.drawDist).env = { s.env with draws := s.env.draws + 1 } :=
  rfl

end drawDist

section beginCycle

@[simp] theorem State.beginCycle_rxd (s : State) : (s.beginCycle).rxd = s.rxd := rfl
@[simp] theorem State.beginCycle_rxo (s : State) : (s.beginCycle).rxo = s.rxo := rfl
@[simp] theorem State.beginCycle_crcAcc (s : State) : (s.beginCycle).crcAcc = s.crcAcc := rfl
@[simp] theorem State.beginCycle_dist (s : State) : (s.beginCycle).dist = s.dist := rfl
@[simp] theorem State.beginCycle_txb (s : State) : (s.beginCycle).txb = s.txb := rfl
@[simp] theorem State.beginCycle_st (s : State) :
    (s.beginCycle).st = { s.st with dispPulse := false, txsPulse := false } :=
  rfl
@[simp] theorem State.beginCycle_hRdata (s : State) :
    (s.beginCycle).hRdata = 0 :=
  rfl
@[simp] theorem State.beginCycle_params (s : State) : (s.beginCycle).params = s.params := rfl
@[simp] theorem State.beginCycle_cyc (s : State) :
    (s.beginCycle).cyc = { CycleCtx.idle with rxBusy := s.rxd.busy, rxoHg := s.rxo.hg, rxoLg := s.rxo.lg } :=
  rfl
@[simp] theorem State.beginCycle_env (s : State) :
    (s.beginCycle).env = { s.env with schedule := s.env.schedule.tail, cycle := s.env.cycle + 1 } :=
  rfl

end beginCycle

section endCycle

@[simp] theorem State.endCycle_rxd (s : State) : (s.endCycle).rxd = s.rxd := rfl
@[simp] theorem State.endCycle_rxo (s : State) : (s.endCycle).rxo = s.rxo := rfl
@[simp] theorem State.endCycle_crcAcc (s : State) : (s.endCycle).crcAcc = s.crcAcc := rfl
@[simp] theorem State.endCycle_dist (s : State) : (s.endCycle).dist = s.dist := rfl
@[simp] theorem State.endCycle_txb (s : State) : (s.endCycle).txb = s.txb := rfl
@[simp] theorem State.endCycle_st (s : State) : (s.endCycle).st = s.st := rfl
@[simp] theorem State.endCycle_hRdata (s : State) : (s.endCycle).hRdata = s.hRdata := rfl
@[simp] theorem State.endCycle_params (s : State) : (s.endCycle).params = s.params := rfl
@[simp] theorem State.endCycle_cyc (s : State) :
    (s.endCycle).cyc = CycleCtx.idle :=
  rfl
@[simp] theorem State.endCycle_env (s : State) : (s.endCycle).env = s.env := rfl

end endCycle

section takeEdge

@[simp] theorem State.takeEdge_rxd (s : State) :
    (s.takeEdge).rxd = { s.rxd with busy := true } :=
  rfl
@[simp] theorem State.takeEdge_rxo (s : State) : (s.takeEdge).rxo = s.rxo := rfl
@[simp] theorem State.takeEdge_crcAcc (s : State) : (s.takeEdge).crcAcc = s.crcAcc := rfl
@[simp] theorem State.takeEdge_dist (s : State) : (s.takeEdge).dist = s.dist := rfl
@[simp] theorem State.takeEdge_txb (s : State) : (s.takeEdge).txb = s.txb := rfl
@[simp] theorem State.takeEdge_st (s : State) : (s.takeEdge).st = s.st := rfl
@[simp] theorem State.takeEdge_hRdata (s : State) : (s.takeEdge).hRdata = s.hRdata := rfl
@[simp] theorem State.takeEdge_params (s : State) : (s.takeEdge).params = s.params := rfl
@[simp] theorem State.takeEdge_cyc (s : State) : (s.takeEdge).cyc = s.cyc := rfl
@[simp] theorem State.takeEdge_env (s : State) : (s.takeEdge).env = s.env := rfl

end takeEdge

section stopBit

@[simp] theorem State.stopBit_rxd (s : State) :
    (s.stopBit).rxd = { s.rxd with busy := true, await := true } :=
  rfl
@[simp] theorem State.stopBit_rxo (s : State) : (s.stopBit).rxo = s.rxo := rfl
@[simp] theorem State.stopBit_crcAcc (s : State) : (s.stopBit).crcAcc = s.crcAcc := rfl
@[simp] theorem State.stopBit_dist (s : State) : (s.stopBit).dist = s.dist := rfl
@[simp] theorem State.stopBit_txb (s : State) : (s.stopBit).txb = s.txb := rfl
@[simp] theorem State.stopBit_st (s : State) : (s.stopBit).st = s.st := rfl
@[simp] theorem State.stopBit_hRdata (s : State) : (s.stopBit).hRdata = s.hRdata := rfl
@[simp] theorem State.stopBit_params (s : State) : (s.stopBit).params = s.params := rfl
@[simp] theorem State.stopBit_cyc (s : State) : (s.stopBit).cyc = s.cyc := rfl
@[simp] theorem State.stopBit_env (s : State) : (s.stopBit).env = s.env := rfl

end stopBit

section startBit

@[simp] theorem State.startBit_rxd (adc : Sample) (s : State) :
    (s.startBit adc).rxd = { s.rxd with busy := true, await := false, byte := 0, run := true, cnt := 1, hg := if s.rxd.lead then adc else s.rxd.hg, gainSel := if s.rxd.lead then true else s.rxd.gainSel } :=
  rfl
@[simp] theorem State.startBit_rxo (adc : Sample) (s : State) : (s.startBit adc).rxo = s.rxo := rfl
@[simp] theorem State.startBit_crcAcc (adc : Sample) (s : State) : (s.startBit adc).crcAcc = s.crcAcc := rfl
@[simp] theorem State.startBit_dist (adc : Sample) (s : State) : (s.startBit adc).dist = s.dist := rfl
@[simp] theorem State.startBit_txb (adc : Sample) (s : State) : (s.startBit adc).txb = s.txb := rfl
@[simp] theorem State.startBit_st (adc : Sample) (s : State) : (s.startBit adc).st = s.st := rfl
@[simp] theorem State.startBit_hRdata (adc : Sample) (s : State) : (s.startBit adc).hRdata = s.hRdata := rfl
@[simp] theorem State.startBit_params (adc : Sample) (s : State) : (s.startBit adc).params = s.params := rfl
@[simp] theorem State.startBit_cyc (adc : Sample) (s : State) :
    (s.startBit adc).cyc = { s.cyc with cntLoaded := true } :=
  rfl
@[simp] theorem State.startBit_env (adc : Sample) (s : State) : (s.startBit adc).env = s.env := rfl

end startBit

section dataBit

@[simp] theorem State.dataBit_rxd (s : State) :
    (s.dataBit).rxd = { s.rxd with busy := true, byte := s.rxd.byte ||| 1#8 <<< bitIndex s.params s.rxd.cnt.toNat } :=
  rfl
@[simp] theorem State.dataBit_rxo (s : State) : (s.dataBit).rxo = s.rxo := rfl
@[simp] theorem State.dataBit_crcAcc (s : State) : (s.dataBit).crcAcc = s.crcAcc := rfl
@[simp] theorem State.dataBit_dist (s : State) : (s.dataBit).dist = s.dist := rfl
@[simp] theorem State.dataBit_txb (s : State) : (s.dataBit).txb = s.txb := rfl
@[simp] theorem State.dataBit_st (s : State) : (s.dataBit).st = s.st := rfl
@[simp] theorem State.dataBit_hRdata (s : State) : (s.dataBit).hRdata = s.hRdata := rfl
@[simp] theorem State.dataBit_params (s : State) : (s.dataBit).params = s.params := rfl
@[simp] theorem State.dataBit_cyc (s : State) : (s.dataBit).cyc = s.cyc := rfl
@[simp] theorem State.dataBit_env (s : State) : (s.dataBit).env = s.env := rfl

end dataBit

section sampleLow

@[simp] theorem State.sampleLow_rxd (adc : Sample) (s : State) :
    (s.sampleLow adc).rxd = { s.rxd with lg := adc } :=
  rfl
@[simp] theorem State.sampleLow_rxo (adc : Sample) (s : State) : (s.sampleLow adc).rxo = s.rxo := rfl
@[simp] theorem State.sampleLow_crcAcc (adc : Sample) (s : State) : (s.sampleLow adc).crcAcc = s.crcAcc := rfl
@[simp] theorem State.sampleLow_dist (adc : Sample) (s : State) : (s.sampleLow adc).dist = s.dist := rfl
@[simp] theorem State.sampleLow_txb (adc : Sample) (s : State) : (s.sampleLow adc).txb = s.txb := rfl
@[simp] theorem State.sampleLow_st (adc : Sample) (s : State) : (s.sampleLow adc).st = s.st := rfl
@[simp] theorem State.sampleLow_hRdata (adc : Sample) (s : State) : (s.sampleLow adc).hRdata = s.hRdata := rfl
@[simp] theorem State.sampleLow_params (adc : Sample) (s : State) : (s.sampleLow adc).params = s.params := rfl
@[simp] theorem State.sampleLow_cyc (adc : Sample) (s : State) : (s.sampleLow adc).cyc = s.cyc := rfl
@[simp] theorem State.sampleLow_env (adc : Sample) (s : State) : (s.sampleLow adc).env = s.env := rfl

end sampleLow

section leadDone

@[simp] theorem State.leadDone_rxd (s : State) :
    (s.leadDone).rxd = { s.rxd with gainSel := false, lead := false, idx := 0 } :=
  rfl
@[simp] theorem State.leadDone_rxo (s : State) : (s.leadDone).rxo = s.rxo := rfl
@[simp] theorem State.leadDone_crcAcc (s : State) : (s.leadDone).crcAcc = s.crcAcc := rfl
@[simp] theorem State.leadDone_dist (s : State) : (s.leadDone).dist = s.dist := rfl
@[simp] theorem State.leadDone_txb (s : State) : (s.leadDone).txb = s.txb := rfl
@[simp] theorem State.leadDone_st (s : State) : (s.leadDone).st = s.st := rfl
@[simp] theorem State.leadDone_hRdata (s : State) : (s.leadDone).hRdata = s.hRdata := rfl
@[simp] theorem State.leadDone_params (s : State) : (s.leadDone).params = s.params := rfl
@[simp] theorem State.leadDone_cyc (s : State) : (s.leadDone).cyc = s.cyc := rfl
@[simp] theorem State.leadDone_env (s : State) : (s.leadDone).env = s.env := rfl

end leadDone

section storeByte

@[simp] theorem State.storeByte_rxd (s : State) :
    (s.storeByte).rxd = { s.rxd with buf := setFrameByte s.rxd.buf s.rxd.idx.toNat s.rxd.byte, idx := s.rxd.idx + 1 } :=
  rfl
@[simp] theorem State.storeByte_rxo (s : State) : (s.storeByte).rxo = s.rxo := rfl
@[simp] theorem State.storeByte_crcAcc (s : State) : (s.storeByte).crcAcc = s.crcAcc := rfl
@[simp] theorem State.storeByte_dist (s : State) : (s.storeByte).dist = s.dist := rfl
@[simp] theorem State.storeByte_txb (s : State) : (s.storeByte).txb = s.txb := rfl
@[simp] theorem State.storeByte_st (s : State) : (s.storeByte).st = s.st := rfl
@[simp] theorem State.storeByte_hRdata (s : State) : (s.storeByte).hRdata = s.hRdata := rfl
@[simp] theorem State.storeByte_params (s : State) : (s.storeByte).params = s.params := rfl
@[simp] theorem State.storeByte_cyc (s : State) : (s.storeByte).cyc = s.cyc := rfl
@[simp] theorem State.storeByte_env (s : State) : (s.storeByte).env = s.env := rfl

end storeByte

section storeLast

@[simp] theorem State.storeLast_rxd (s : State) :
    (s.storeLast).rxd = { s.rxd with buf := completedFrame s.rxd } :=
  rfl
@[simp] theorem State.storeLast_rxo (s : State) : (s.storeLast).rxo = s.rxo := rfl
@[simp] theorem State.storeLast_crcAcc (s : State) : (s.storeLast).crcAcc = s.crcAcc := rfl
@[simp] theorem State.storeLast_dist (s : State) : (s.storeLast).dist = s.dist := rfl
@[simp] theorem State.storeLast_txb (s : State) : (s.storeLast).txb = s.txb := rfl
@[simp] theorem State.storeLast_st (s : State) : (s.storeLast).st = s.st := rfl
@[simp] theorem State.storeLast_hRdata (s : State) : (s.storeLast).hRdata = s.hRdata := rfl
@[simp] theorem State.storeLast_params (s : State) : (s.storeLast).params = s.params := rfl
@[simp] theorem State.storeLast_cyc (s : State) : (s.storeLast).cyc = s.cyc := rfl
@[simp] theorem State.storeLast_env (s : State) : (s.storeLast).env = s.env := rfl

end storeLast

section dispatchFrame

@[simp] theorem State.dispatchFrame_rxd (s : State) : (s.dispatchFrame).rxd = s.rxd := rfl
@[simp] theorem State.dispatchFrame_rxo (s : State) :
    (s.dispatchFrame).rxo = { frame := s.rxd.buf, hg := s.rxd.hg, lg := s.rxd.lg } :=
  rfl
@[simp] theorem State.dispatchFrame_crcAcc (s : State) : (s.dispatchFrame).crcAcc = s.crcAcc := rfl
@[simp] theorem State.dispatchFrame_dist (s : State) : (s.dispatchFrame).dist = s.dist := rfl
@[simp] theorem State.dispatchFrame_txb (s : State) : (s.dispatchFrame).txb = s.txb := rfl
@[simp] theorem State.dispatchFrame_st (s : State) :
    (s.dispatchFrame).st = { s.st with dispPulse := true } :=
  rfl
@[simp] theorem State.dispatchFrame_hRdata (s : State) : (s.dispatchFrame).hRdata = s.hRdata := rfl
@[simp] theorem State.dispatchFrame_params (s : State) : (s.dispatchFrame).params = s.params := rfl
@[simp] theorem State.dispatchFrame_cyc (s : State) : (s.dispatchFrame).cyc = s.cyc := rfl
@[simp] theorem State.dispatchFrame_env (s : State) : (s.dispatchFrame).env = s.env := rfl

end dispatchFrame

section compare

@[simp] theorem State.compare_rxd (s : State) : (s.compare).rxd = s.rxd := rfl
@[simp] theorem State.compare_rxo (s : State) : (s.compare).rxo = s.rxo := rfl
@[simp] theorem State.compare_crcAcc (s : State) : (s.compare).crcAcc = s.crcAcc := rfl
@[simp] theorem State.compare_dist (s : State) : (s.compare).dist = s.dist := rfl
@[simp] theorem State.compare_txb (s : State) :
    (s.compare).txb = { s.txb with cnt := 0, acc := accNew s, inc := 0xFF, state := if requestDue s then .waitFrame else s.txb.state } :=
  rfl
@[simp] theorem State.compare_st (s : State) : (s.compare).st = s.st := rfl
@[simp] theorem State.compare_hRdata (s : State) : (s.compare).hRdata = s.hRdata := rfl
@[simp] theorem State.compare_params (s : State) : (s.compare).params = s.params := rfl
@[simp] theorem State.compare_cyc (s : State) : (s.compare).cyc = s.cyc := rfl
@[simp] theorem State.compare_env (s : State) : (s.compare).env = s.env := rfl

end compare

section countTick

@[simp] theorem State.countTick_rxd (s : State) : (s.countTick).rxd = s.rxd := rfl
@[simp] theorem State.countTick_rxo (s : State) : (s.countTick).rxo = s.rxo := rfl
@[simp] theorem State.countTick_crcAcc (s : State) : (s.countTick).crcAcc = s.crcAcc := rfl
@[simp] theorem State.countTick_dist (s : State) : (s.countTick).dist = s.dist := rfl
@[simp] theorem State.countTick_txb (s : State) :
    (s.countTick).txb = { s.txb with cnt := s.txb.cnt + 1 } :=
  rfl
@[simp] theorem State.countTick_st (s : State) : (s.countTick).st = s.st := rfl
@[simp] theorem State.countTick_hRdata (s : State) : (s.countTick).hRdata = s.hRdata := rfl
@[simp] theorem State.countTick_params (s : State) : (s.countTick).params = s.params := rfl
@[simp] theorem State.countTick_cyc (s : State) : (s.countTick).cyc = s.cyc := rfl
@[simp] theorem State.countTick_env (s : State) : (s.countTick).env = s.env := rfl

end countTick

section goTx

@[simp] theorem State.goTx_rxd (st : TxState) (s : State) : (s.goTx st).rxd = s.rxd := rfl
@[simp] theorem State.goTx_rxo (st : TxState) (s : State) : (s.goTx st).rxo = s.rxo := rfl
@[simp] theorem State.goTx_crcAcc (st : TxState) (s : State) : (s.goTx st).crcAcc = s.crcAcc := rfl
@[simp] theorem State.goTx_dist (st : TxState) (s : State) : (s.goTx st).dist = s.dist := rfl
@[simp] theorem State.goTx_txb (st : TxState) (s : State) :
    (s.goTx st).txb = { s.txb with state := st } :=
  rfl
@[simp] theorem State.goTx_st (st : TxState) (s : State) : (s.goTx st).st = s.st := rfl
@[simp] theorem State.goTx_hRdata (st : TxState) (s : State) : (s.goTx st).hRdata = s.hRdata := rfl
@[simp] theorem State.goTx_params (st : TxState) (s : State) : (s.goTx st).params = s.params := rfl
@[simp] theorem State.goTx_cyc (st : TxState) (s : State) : (s.goTx st).cyc = s.cyc := rfl
@[simp] theorem State.goTx_env (st : TxState) (s : State) : (s.goTx st).env = s.env := rfl

end goTx

section sendDone

@[simp] theorem State.sendDone_rxd (s : State) : (s.sendDone).rxd = s.rxd := rfl
@[simp] theorem State.sendDone_rxo (s : State) : (s.sendDone).rxo = s.rxo := rfl
@[simp] theorem State.sendDone_crcAcc (s : State) : (s.sendDone).crcAcc = s.crcAcc := rfl
@[simp] theorem State.sendDone_dist (s : State) : (s.sendDone).dist = s.dist := rfl
@[simp] theorem State.sendDone_txb (s : State) :
    (s.sendDone).txb = { s.txb with acc := 0, state := .idle } :=
  rfl
@[simp] theorem State.sendDone_st (s : State) :
    (s.sendDone).st = { s.st with txsPulse := true } :=
  rfl
@[simp] theorem State.sendDone_hRdata (s : State) : (s.sendDone).hRdata = s.hRdata := rfl
@[simp] theorem State.sendDone_params (s : State) : (s.sendDone).params = s.params := rfl
@[simp] theorem State.sendDone_cyc (s : State) : (s.sendDone).cyc = s.cyc := rfl
@[simp] theorem State.sendDone_env (s : State) : (s.sendDone).env = s.env := rfl

end sendDone

section putEstimate

@[simp] theorem State.putEstimate_rxd (r : Option Byte) (s : State) : (s.putEstimate r).rxd = s.rxd := by cases r <;> rfl
@[simp] theorem State.putEstimate_rxo (r : Option Byte) (s : State) : (s.putEstimate r).rxo = s.rxo := by cases r <;> rfl
@[simp] theorem State.putEstimate_crcAcc (r : Option Byte) (s : State) : (s.putEstimate r).crcAcc = s.crcAcc := by cases r <;> rfl
@[simp] theorem State.putEstimate_txb (r : Option Byte) (s : State) : (s.putEstimate r).txb = s.txb := by cases r <;> rfl
@[simp] theorem State.putEstimate_hRdata (r : Option Byte) (s : State) : (s.putEstimate r).hRdata = s.hRdata := by cases r <;> rfl
@[simp] theorem State.putEstimate_params (r : Option Byte) (s : State) : (s.putEstimate r).params = s.params := by cases r <;> rfl

end putEstimate

section withFetchWord

@[simp] theorem State.withFetchWord_rxd (s : State) (nbits w : Nat) : (s.withFetchWord nbits w).rxd = s.rxd := rfl
@[simp] theorem State.withFetchWord_rxo (s : State) (nbits w : Nat) : (s.withFetchWord nbits w).rxo = s.rxo := rfl
@[simp] theorem State.withFetchWord_crcAcc (s : State) (nbits w : Nat) : (s.withFetchWord nbits w).crcAcc = s.crcAcc := rfl
@[simp] theorem State.withFetchWord_dist (s : State) (nbits w : Nat) : (s.withFetchWord nbits w).dist = s.dist := rfl
@[simp] theorem State.withFetchWord_txb (s : State) (nbits w : Nat) : (s.withFetchWord nbits w).txb = s.txb := rfl
@[simp] theorem State.withFetchWord_st (s : State) (nbits w : Nat) : (s.withFetchWord nbits w).st = s.st := rfl
@[simp] theorem State.withFetchWord_hRdata (s : State) (nbits w : Nat) : (s.withFetchWord nbits w).hRdata = s.hRdata := rfl
@[simp] theorem State.withFetchWord_params (s : State) (nbits w : Nat) : (s.withFetchWord nbits w).params = s.params := rfl
@[simp] theorem State.withFetchWord_cyc (s : State) (nbits w : Nat) : (s.withFetchWord nbits w).cyc = s.cyc := rfl
@[simp] theorem State.withFetchWord_env (s : State) (nbits w : Nat) :
    (s.withFetchWord nbits w).env = { s.env with schedule := placeInstr nbits w s.env.schedule } :=
  rfl

end withFetchWord

section withInputs

@[simp] theorem State.withInputs_rxd (l : List CycleInput) (s : State) : (s.withInputs l).rxd = s.rxd := rfl
@[simp] theorem State.withInputs_rxo (l : List CycleInput) (s : State) : (s.withInputs l).rxo = s.rxo := rfl
@[simp] theorem State.withInputs_crcAcc (l : List CycleInput) (s : State) : (s.withInputs l).crcAcc = s.crcAcc := rfl
@[simp] theorem State.withInputs_dist (l : List CycleInput) (s : State) : (s.withInputs l).dist = s.dist := rfl
@[simp] theorem State.withInputs_txb (l : List CycleInput) (s : State) : (s.withInputs l).txb = s.txb := rfl
@[simp] theorem State.withInputs_st (l : List CycleInput) (s : State) : (s.withInputs l).st = s.st := rfl
@[simp] theorem State.withInputs_hRdata (l : List CycleInput) (s : State) : (s.withInputs l).hRdata = s.hRdata := rfl
@[simp] theorem State.withInputs_params (l : List CycleInput) (s : State) : (s.withInputs l).params = s.params := rfl
@[simp] theorem State.withInputs_cyc (l : List CycleInput) (s : State) : (s.withInputs l).cyc = s.cyc := rfl
@[simp] theorem State.withInputs_env (l : List CycleInput) (s : State) :
    (s.withInputs l).env = { s.env with schedule := l } :=
  rfl

end withInputs

/-- An estimate that has a value leaves status, cycle and environment alone. -/
@[simp] theorem State.putEstimate_some (d : Byte) (s : State) :
    s.putEstimate (some d) = { s with dist := { s.dist with out := d } } := rfl

/-- On DERR the free value is drawn and EstimatorError raised (R188). -/
@[simp] theorem State.putEstimate_none (s : State) :
    s.putEstimate none = s.drawDist.raiseCause .estimatorError := rfl

end Sys2Proof.Machine
end

