-- ==== Sys2Proof/Laws/Outcome.lean ====
section
/-! SUPPORT. Outcomes in sequence: what `andThen`, `runOps` and `step` can answer. -/

namespace Sys2Proof.Machine

variable {s t : State}

@[simp] theorem andThen_next (s : State) (f : State → Host.Outcome State Fault Refusal) :
    andThen (.next s) f = f s := rfl

@[simp] theorem andThen_fault (r : Fault) (f : State → Host.Outcome State Fault Refusal) :
    andThen (.fault r) f = .fault r := rfl

@[simp] theorem andThen_refused (r : Refusal) (f : State → Host.Outcome State Fault Refusal) :
    andThen (.refused r) f = .refused r := rfl

/-- `andThen` goes on exactly where both parts do. -/
theorem andThen_eq_next_iff (o : Host.Outcome State Fault Refusal) (f : State → Host.Outcome State Fault Refusal) :
    andThen o f = .next t ↔ ∃ u, o = .next u ∧ f u = .next t := by
  cases o <;> simp

@[simp] theorem runOps_nil (s : State) : runOps [] s = .next s := rfl

@[simp] theorem runOps_cons (i : Instr) (is : List Instr) (s : State) :
    runOps (i :: is) s = andThen (exec i s) (runOps is) := rfl

theorem andThen_assoc (o : Host.Outcome State Fault Refusal) (f g : State → Host.Outcome State Fault Refusal) :
    andThen (andThen o f) g = andThen o fun u => andThen (f u) g := by
  cases o <;> rfl

/-- Operations in two parts run one part after the other. -/
theorem runOps_append (is js : List Instr) (s : State) :
    runOps (is ++ js) s = andThen (runOps is s) (runOps js) := by
  induction is generalizing s with
  | nil => rfl
  | cons i is ih =>
    simp only [List.cons_append, runOps_cons, andThen_assoc]
    exact congrArg (andThen _) (funext fun u => ih u)

/-- What holds before a list of operations and is kept by each of them holds after. -/
theorem runOps_keeps {P : State → Prop} {is : List Instr}
    (keep : ∀ i ∈ is, ∀ u v, P u → exec i u = .next v → P v) (hs : P s) (h : runOps is s = .next t) : P t := by
  induction is generalizing s with
  | nil => cases h; exact hs
  | cons i is ih =>
    obtain ⟨u, hu, hr⟩ := (andThen_eq_next_iff ..).1 (runOps_cons i is s ▸ h)
    exact ih (fun j hj => keep j (List.mem_cons_of_mem _ hj)) (keep i List.mem_cons_self _ _ hs hu) hr

/-- Operations each of which completes under a condition that each of them keeps complete in sequence. -/
theorem runOps_completes {P : State → Prop} {is : List Instr}
    (go : ∀ i ∈ is, ∀ u, P u → ∃ v, exec i u = .next v ∧ P v) (hs : P s) : ∃ t, runOps is s = .next t ∧ P t := by
  induction is generalizing s with
  | nil => exact ⟨s, rfl, hs⟩
  | cons i is ih =>
    obtain ⟨u, hu, pu⟩ := go i List.mem_cons_self s hs
    obtain ⟨t, ht, pt⟩ := ih (fun j hj => go j (List.mem_cons_of_mem _ hj)) pu
    exact ⟨t, by simp [hu, ht], pt⟩

/-- A step that goes on is a cycle under legal parameters. -/
theorem step_eq_next_iff :
    step s = .next t ↔
      paramsLegal s.params = true ∧ ∃ u, runCycle s.nextInput s.beginCycle = .next u ∧ t = u.endCycle := by
  unfold step
  split
  · rename_i h
    rw [andThen_eq_next_iff]
    constructor
    · rintro ⟨u, hu, ht⟩
      exact ⟨h, u, hu, by cases ht; rfl⟩
    · rintro ⟨_, u, hu, rfl⟩
      exact ⟨u, hu, rfl⟩
  · rename_i h
    simp [h]

end Sys2Proof.Machine
end

