-- ==== Sys2Proof/Laws/Crc.lean ====
section
/-! SUPPORT. The CRC function on lists of bytes, and the host's CRC engine. -/

namespace Sys2Proof.Machine

/-- The CRC of the empty sequence is the seed (R162). -/
@[simp] theorem crc16_nil : crc16 [] = 0xFFFF := rfl

/-- The CRC is a left fold (R162). -/
theorem crc16_append_one (l : List Byte) (d : Byte) : crc16 (l ++ [d]) = crcUpd (crc16 l) d := by
  simp [crc16]

/-- Host writes of CRC_DATA fold their bytes (R166). -/
theorem runOps_wrCrcData (l : List Byte) (s : State) :
    runOps (l.map Instr.wrCrcData) s = .next { s with crcAcc := l.foldl crcUpd s.crcAcc } := by
  induction l generalizing s with
  | nil => rfl
  | cons d l ih => exact ih { s with crcAcc := crcUpd s.crcAcc d }

/-- When a frame passes the check (R163). -/
theorem frameOk_iff (f : Frame) :
    frameOk f = true ↔ crc16 (f.toList.take 10) = frameByte f 11 ++ frameByte f 10 := by
  simp [frameOk]

end Sys2Proof.Machine
end

