-- ==== Sys2Proof/Laws/Host.lean ====
section
/-! SUPPORT. The host's operations: what one of them can do, and what a read depends on. -/

namespace Sys2Proof.Machine

variable {s t : State}

/-- A read sees the units' state and the status, and nothing of the pulses, the cycle or the environment. -/
theorem memRead_congr (a : Addr) (hr : t.rxd = s.rxd) (ho : t.rxo = s.rxo) (hc : t.crcAcc = s.crcAcc)
    (hd : t.dist = s.dist) (hx : t.txb = s.txb) (hf : t.st.flags = s.st.flags) (hi : t.st.irqen = s.st.irqen) :
    memRead t a = memRead s a := by
  unfold memRead memReadLow statusWord irqenWord rxCtlWord
  rw [hr, ho, hc, hd, hx, hf, hi]

/-- The start of a cycle changes nothing a read sees. -/
@[simp] theorem memRead_beginCycle (s : State) (a : Addr) : memRead s.beginCycle a = memRead s a :=
  memRead_congr a rfl rfl rfl rfl rfl rfl rfl

/-- The host's data output is no register. -/
@[simp] theorem memRead_readOut (v : Word) (s : State) (a : Addr) : memRead (s.readOut v) a = memRead s a :=
  memRead_congr a rfl rfl rfl rfl rfl rfl rfl

/-- A raised cause's own flag. -/
@[simp] theorem getFlag_setFlag (f : Flags) (c d : Cause) :
    getFlag (setFlag f c) d = (decide (d = c) || getFlag f d) := by
  cases c <;> cases d <;> rfl

/-- R212, flag by flag. -/
@[simp] theorem getFlag_flagsAfterClear (r f : Flags) (clr : BitVec 4) (c : Cause) :
    getFlag (flagsAfterClear r clr f) c = flagAfterClear (getFlag r c) (clr.getLsbD (causeCode c - 1)) (getFlag f c) := by
  cases c <;> rfl

/-- Every host operation completes. -/
theorem execHost_completes {i : Instr} (hi : isHostOp i = true) (s : State) : ∃ t, exec i s = .next t := by
  cases i <;> first | exact ⟨_, rfl⟩ | cases hi

/-- A host operation of R266 step 1 sets `h_rdata` alone (R67). -/
theorem execRead_cases {i : Instr} (hi : isHostRead i = true) (s : State) : ∃ v, exec i s = .next (s.readOut v) := by
  cases i <;> first | exact ⟨_, rfl⟩ | cases hi

/-- A host operation leaves RXD, RXO and TXB's counters alone (R130). -/
theorem execHost_frame {i : Instr} (hi : isHostOp i = true) (h : exec i s = .next t) :
    t.rxd = s.rxd ∧ t.rxo = s.rxo ∧ t.txb = { s.txb with period := t.txb.period }
      ∧ t.st.dispPulse = s.st.dispPulse ∧ t.st.txsPulse = s.st.txsPulse ∧ t.params = s.params := by
  cases i <;> first
    | (cases hi; done)
    | (cases h; exact ⟨rfl, rfl, rfl, rfl, rfl, rfl⟩)
    | (cases h; unfold State.putEstimate; split <;> exact ⟨rfl, rfl, rfl, rfl, rfl, rfl⟩)

/-- Every decoded host word is a host operation. -/
theorem decodeHost_isHostOp (o : Option HostWord) : isHostOp (decodeHost o) = true := by
  cases o with
  | none => rfl
  | some w =>
    simp only [decodeHost, decodeHostWord, decodeWrite, decodeRead, decodeCmd]
    repeat' split
    all_goals rfl

end Sys2Proof.Machine
end

