-- ==== Sys2Proof/Laws/Cycle.lean ====
section
/-! SUPPORT. The lists of operations of one cycle (R266): what each can hold, and what the read and the timeout do. -/

namespace Sys2Proof.Machine

variable {c : CycleInput} {s s0 : State}

/-- A cycle without reset presents its edge alone to RXD. -/
theorem edgeOps_eq (h : inReset c = false) : edgeOps c = if c.evt.getLsbD 1 then [.edge c.adc] else [] := by
  unfold inReset at h
  unfold edgeOps events decodeEvents
  rw [if_neg (ne_true_of_eq_false h)]
  repeat' split
  all_goals rfl

/-- A cycle without reset presents the level of `run_eligible` as it is. -/
theorem levelOps_eq (h : inReset c = false) : levelOps c = if c.evt.getLsbD 7 then [.runEligible] else [] := by
  unfold inReset at h
  unfold levelOps events decodeEvents
  rw [if_neg (ne_true_of_eq_false h)]
  repeat' split
  all_goals rfl

/-- A reset cycle presents RESET alone. -/
theorem events_eq_reset (h : inReset c = true) : events c = [.reset] := by
  unfold inReset at h
  simp [events, decodeEvents, h]

/-- What TXB runs in a cycle is a TXB operation. -/
theorem isTxOp_of_selectTx {i j : Instr} (h : selectTx s i = some j) : isTxOp j = true := by
  unfold selectTx at h
  split at h <;> first
    | (split at h <;> cases h <;> rfl)
    | (cases h; rfl)
    | cases h

/-- TXB's operations of a cycle are TXB operations. -/
theorem isTxOp_of_mem_txOps {i : Instr} (h : i ∈ txOps c s) : isTxOp i = true := by
  obtain ⟨j, _, hj⟩ := List.mem_filterMap.1 h
  exact isTxOp_of_selectTx hj

/-- TXB's operations of a cycle are the one its state selects, or none (R97 item 3). -/
theorem txOps_eq (h : inReset c = false) : txOps c s = (txOperation s c).toList := by
  unfold inReset at h
  unfold txOps events decodeEvents txOperation
  rw [if_neg (ne_true_of_eq_false h)]
  simp only [List.filterMap_append, apply_ite (List.filterMap (selectTx s)), List.filterMap_nil, List.filterMap_cons,
    apply_ite (selectTx s)]
  have hd : s.txb.state = .idle → compareDue s = decide (s.txb.cnt = s.txb.inc) := fun hs => by
    simp only [compareDue, hs]
    rfl
  cases hs : s.txb.state <;> simp only [selectTx, hs, ite_self]
  · simp only [hd hs, decide_eq_true_eq]
    split <;> simp
  all_goals
    repeat' split
    all_goals simp_all

/-- Running an operation a cycle may lack. -/
theorem runOps_toList (o : Option Instr) (s : State) : runOps o.toList s = runOption o s := by
  cases o with
  | none => rfl
  | some i =>
    show andThen (exec i s) _ = exec i s
    cases exec i s <;> rfl

/-- The host's operation of step 6 is a host operation. -/
theorem isHostOp_of_mem_writeOps {i : Instr} (h : i ∈ writeOps c) : isHostOp i = true := by
  unfold writeOps at h
  split at h
  · cases h
  · cases List.mem_singleton.1 h
    exact decodeHost_isHostOp _

/-- A read of an address, by whichever of its rows, gives `MemRead` (R210, R223). -/
theorem exec_decodeRead (a : Addr) (s : State) : exec (decodeRead a) s = .next (s.readOut (memRead s a)) := by
  have hz : isReserved a.toNat = true ∨ a = 0x02 ∨ a = 0x03 → memRead s a = 0 := by
    intro h
    have h' : isReserved a.toNat = true ∨ a.toNat = 2 ∨ a.toNat = 3 := by
      rcases h with h | rfl | rfl
      · exact .inl h
      · exact .inr (.inl rfl)
      · exact .inr (.inr rfl)
    have hlt := a.isLt
    unfold memRead
    generalize a.toNat = n at h' hlt
    simp only
    unfold isReserved at h'
    simp only [Bool.or_eq_true, Bool.and_eq_true, decide_eq_true_eq] at h'
    split
    · have hn : n = 0x0F ∨ n = 2 ∨ n = 3 := by omega
      rcases hn with rfl | rfl | rfl <;> rfl
    · rw [if_neg (by omega), if_neg (by omega), if_neg (by omega), if_neg (by omega)]
  unfold decodeRead
  split
  · rename_i h
    rw [hz (.inr h)]
    rfl
  · split
    · rename_i h
      rw [hz (.inl h)]
      rfl
    · rfl

/-- A write is no read, and a read is one (R81). -/
theorem isHostRead_decodeHostWord (w : HostWord) : isHostRead (decodeHostWord w) = !hostWe w := by
  unfold decodeHostWord
  cases hostWe w
  · simp only [decodeRead]
    repeat' split
    all_goals first | rfl | (rename_i h; cases h)
  · simp only [decodeWrite, decodeCmd]
    repeat' split
    all_goals first | rfl | (rename_i h; exact absurd trivial h)

/-- R266 step 1: the host read sets `h_rdata` to what R61 says, and nothing else. -/
theorem runOps_readOps (c : CycleInput) (s : State) :
    runOps (readOps c) s.beginCycle = .next (s.beginCycle.readOut (hostReadValue s c)) := by
  unfold readOps hostReadValue
  cases c.host with
  | none => rfl
  | some w =>
    simp only [decodeHost, isHostRead_decodeHostWord]
    cases hw : hostWe w
    · simp [decodeHostWord, hw, exec_decodeRead]
    · rfl

/-- R266 step 2. -/
theorem runOps_timeoutOps (h : timeoutDue s0 = timeoutDue s) :
    runOps (timeoutOps s0) s = .next (if timeoutDue s then s.rxReset else s) := by
  unfold timeoutOps
  rw [h]
  cases ht : timeoutDue s
  · rfl
  · show andThen (execRxTimeout s) _ = _
    simp [execRxTimeout, ht]

end Sys2Proof.Machine
end

