-- ==== Sys2Proof/Laws/Decode.lean ====
section
/-! SUPPORT. The fields of an HBUS word put together and taken apart (R81). -/

namespace Sys2Proof

@[simp] theorem hostWe_hostWord (b : Bool) (a : Addr) (d : Word) : hostWe (hostWord b a d) = b := by
  simp only [hostWe, hostWord, BitVec.getLsbD_append]
  cases b <;> rfl

@[simp] theorem hostAddr_hostWord (b : Bool) (a : Addr) (d : Word) : hostAddr (hostWord b a d) = a := by
  apply BitVec.eq_of_getLsbD_eq
  intro i hi
  simp only [hostAddr, hostWord, BitVec.getLsbD_extractLsb', BitVec.getLsbD_append, hi, decide_true, Bool.true_and]
  rw [if_neg (by omega), if_pos (by omega), Nat.add_sub_cancel_left]

@[simp] theorem hostData_hostWord (b : Bool) (a : Addr) (d : Word) : hostData (hostWord b a d) = d := by
  apply BitVec.eq_of_getLsbD_eq
  intro i hi
  simp only [hostData, hostWord, BitVec.getLsbD_extractLsb', BitVec.getLsbD_append, hi, decide_true, Bool.true_and]
  rw [if_pos (by omega), Nat.zero_add]

/-- A word is its three fields. -/
theorem hostWord_fields (w : HostWord) : hostWord (hostWe w) (hostAddr w) (hostData w) = w := by
  apply BitVec.eq_of_getLsbD_eq
  intro i hi
  simp only [hostWord, hostWe, hostAddr, hostData, BitVec.getLsbD_append, BitVec.getLsbD_extractLsb',
    BitVec.getLsbD_ofBool]
  by_cases h1 : i < 16
  · simp [h1]
  · by_cases h2 : i < 23
    · simp [h1, show i - 16 < 7 by omega, show 16 + (i - 16) = i by omega]
    · have : i = 23 := by omega
      subst this
      simp

/-- A host write decodes by its address and data. -/
theorem decodeFirst_writeInput (a : Addr) (d : Word) : decodeFirst (writeInput a d) = decodeWrite a d := by
  simp [decodeFirst, decodeEvents, writeInput, CycleInput.idle, decodeHost, decodeHostWord]

/-- A host read decodes by its address. -/
theorem decodeFirst_readInput (a : Addr) : decodeFirst (readInput a) = decodeRead a := by
  simp [decodeFirst, decodeEvents, readInput, CycleInput.idle, decodeHost, decodeHostWord]

end Sys2Proof
end

