-- ==== Sys2Proof/Laws/Dist.lean ====
section
/-! SUPPORT. The bucket search and what the estimator's parts can answer. -/

namespace Sys2Proof.Machine

/-- The entry written and the entries left alone (R219, R220). -/
theorem calEntry_setCalEntry (t : CalTable) (v : Word) {i k : Nat} (hk : k < 14) :
    calEntry (setCalEntry t i v) k = if k = i then v else calEntry t k := by
  unfold calEntry setCalEntry
  rw [Vector.toList_setIfInBounds]
  by_cases h : k = i
  · subst h; simp [hk]
  · simp [Ne.symm h, h]

/-- A bucket the search finds lies in 1..13, below the sample, and is the first such (R183). -/
theorem findBucket_some {t : CalTable} {x : Int} {k : Nat} (h : findBucket t x = some k) :
    1 ≤ k ∧ k ≤ 13 ∧ calInt t k < x ∧ ∀ j, 1 ≤ j → j < k → x ≤ calInt t j := by
  unfold findBucket at h
  obtain ⟨hk, as, bs, happ, hall⟩ := List.find?_eq_some_iff_append.1 h
  have hmem : k ∈ List.range' 1 13 := happ ▸ List.mem_append_right _ List.mem_cons_self
  rw [List.mem_range'_1] at hmem
  refine ⟨hmem.1, by omega, of_decide_eq_true hk, fun j h1 hj => ?_⟩
  have hjm : j ∈ as ++ k :: bs := happ ▸ List.mem_range'_1.2 ⟨h1, by omega⟩
  have hs : (as ++ k :: bs).Pairwise (· < ·) := happ ▸ List.pairwise_lt_range'
  rcases List.mem_append.1 hjm with hja | hjb
  · have := hall j hja
    simpa using this
  · rcases List.mem_cons.1 hjb with rfl | hjb
    · omega
    · have := (List.pairwise_cons.1 (List.pairwise_append.1 hs).2.1).1 j hjb
      omega

/-- The search fails where no entry from 1 to 13 is below the sample (R183). -/
theorem findBucket_none {t : CalTable} {x : Int} :
    findBucket t x = none ↔ ∀ j, 1 ≤ j → j ≤ 13 → x ≤ calInt t j := by
  unfold findBucket
  simp only [List.find?_eq_none, List.mem_range'_1, decide_eq_true_eq, not_lt]
  exact ⟨fun h j h1 h2 => h j ⟨h1, by omega⟩, fun h j hj => h j hj.1 (by omega)⟩

/-- A segment fails exactly where it is flat (R184, R188). -/
theorem segment_eq_none_iff (p : Params) (t : CalTable) (x : Int) (k : Nat) :
    segment p t x k = none ↔ calInt t k = calInt t (k - 1) := by
  unfold segment bucketRise
  split <;> simp <;> omega

/-- The estimate fails exactly where a used channel does, or no channel is used (R187, R188). -/
theorem combine_eq_none_iff (p : Params) (hg : Int) (high low : Channel) :
    combine p hg high low = none ↔ high = .derr ∨ low = .derr ∨ (high = .off ∧ low = .off) := by
  cases high <;> cases low <;> simp [combine]

end Sys2Proof.Machine
end

