-- ==== Sys2Proof/Laws/PerInstr.lean ====
section
/-! SUPPORT. For every operation: its encoding uses one of the two encoding spaces of a cycle's inputs, the event vector or
the HBUS word, and never both (R80, R85, R81). One lemma for each constructor. -/

namespace Sys2Proof.Laws.OneSpace

/-- The operation's encoding presents no event, or no host word. -/
def Statement (i : Instr) : Prop := (encode i).evt = 0 ∨ (encode i).host = none

theorem nop : Statement .nop := .inl rfl

theorem crcInit : Statement .crcInit := .inl rfl

theorem distEst : Statement .distEst := .inl rfl

theorem distEstRx : Statement .distEstRx := .inl rfl

theorem cmdRsv (op : Byte) : Statement (.cmdRsv op) := .inl rfl

theorem wrStatus (clr : BitVec 4) : Statement (.wrStatus clr) := .inl rfl

theorem wrIrqen (en : BitVec 4) : Statement (.wrIrqen en) := .inl rfl

theorem wrCrcData (d : Byte) : Statement (.wrCrcData d) := .inl rfl

theorem wrDistHgIn (v : Sample) : Statement (.wrDistHgIn v) := .inl rfl

theorem wrDistLgIn (v : Sample) : Statement (.wrDistLgIn v) := .inl rfl

theorem wrTxPeriod (p : Word) : Statement (.wrTxPeriod p) := .inl rfl

theorem wrCalHigh (i : Fin 14) (v : Word) : Statement (.wrCalHigh i v) := .inl rfl

theorem wrCalLow (i : Fin 14) (v : Word) : Statement (.wrCalLow i v) := .inl rfl

theorem wrRo (a : Addr) : Statement (.wrRo a) := .inl rfl

theorem wrRsv (a : Addr) : Statement (.wrRsv a) := .inl rfl

theorem rdWo (a : Addr) : Statement (.rdWo a) := .inl rfl

theorem rdRsv (a : Addr) : Statement (.rdRsv a) := .inl rfl

theorem rd (a : Addr) : Statement (.rd a) := .inl rfl

theorem hbusIdle : Statement .hbusIdle := .inl rfl

theorem reset : Statement .reset := .inr rfl

theorem edge (adc : Sample) : Statement (.edge adc) := .inr rfl

theorem edgeDrop : Statement .edgeDrop := .inr rfl

theorem edgeStart (adc : Sample) : Statement (.edgeStart adc) := .inr rfl

theorem edgeStray : Statement .edgeStray := .inr rfl

theorem edgeData : Statement .edgeData := .inr rfl

theorem edgeStop (adc : Sample) : Statement (.edgeStop adc) := .inr rfl

theorem edgeStopLeadOk (adc : Sample) : Statement (.edgeStopLeadOk adc) := .inr rfl

theorem edgeStopCollision (adc : Sample) : Statement (.edgeStopCollision adc) := .inr rfl

theorem edgeStopByte : Statement .edgeStopByte := .inr rfl

theorem edgeStopDispatch : Statement .edgeStopDispatch := .inr rfl

theorem edgeStopCrcDrop : Statement .edgeStopCrcDrop := .inr rfl

theorem tick : Statement .tick := .inr rfl

theorem rspFrame : Statement .rspFrame := .inr rfl

theorem rspNone : Statement .rspNone := .inr rfl

theorem doneOk : Statement .doneOk := .inr rfl

theorem doneFail (rnd : Byte) : Statement (.doneFail rnd) := .inr rfl

theorem runEligible : Statement .runEligible := .inr rfl

theorem rxTimeout : Statement .rxTimeout := .inl rfl

theorem txCompare : Statement .txCompare := .inr rfl

end Sys2Proof.Laws.OneSpace
end

