-- ==== Sys2Proof/Laws/Rxd.lean ====
section
/-! SUPPORT. RXD's operations: what an edge can do, and what the frame buffer's bytes are. -/

namespace Sys2Proof.Machine

variable {s t : State} {adc : Sample}

/-- The byte written and the bytes left alone (R123, R124). -/
theorem frameByte_setFrameByte (f : Frame) (b : Byte) {i k : Nat} (hk : k < 12) :
    frameByte (setFrameByte f i b) k = if k = i then b else frameByte f k := by
  unfold frameByte setFrameByte
  rw [Vector.toList_setIfInBounds]
  by_cases h : k = i
  · subst h; simp [hk]
  · simp [Ne.symm h, h]

/-- A frame is its twelve bytes. -/
theorem frame_ext {f g : Frame} (h : ∀ k < 12, frameByte f k = frameByte g k) : f = g := by
  apply Vector.ext
  intro i hi
  simpa [frameByte, hi] using h i hi

/-- The completed frame is the only one with the buffer's first eleven bytes and the byte just received (R124). -/
theorem eq_completedFrame {r : Rxd} {f : Frame} (hb : ∀ k < 11, frameByte f k = frameByte r.buf k)
    (hl : frameByte f 11 = r.byte) : f = completedFrame r := by
  refine frame_ext fun k hk => ?_
  rw [completedFrame, frameByte_setFrameByte _ _ hk]
  split
  · subst k; exact hl
  · exact hb k (by omega)

/-- An edge is what its row is: one case for each row it can be (R114 to R125). -/
theorem execEdge_cases (h : exec (.edge adc) s = .next t) :
    (edgeKind s = .drop ∧ t = s)
    ∨ (edgeKind s = .start ∧ t = s.startBit adc)
    ∨ (edgeKind s = .stray ∧ t = s.takeEdge.rxReset)
    ∨ (edgeKind s = .data ∧ t = s.dataBit)
    ∨ (edgeKind s = .stopLeadOk ∧ t = (s.stopBit.sampleLow adc).leadDone)
    ∨ (edgeKind s = .stopCollision ∧ t = (s.stopBit.sampleLow adc).rxReset)
    ∨ (edgeKind s = .stopByte ∧ t = s.stopBit.storeByte)
    ∨ (edgeKind s = .stopDispatch
        ∧ t = s.stopBit.storeLast.rxReset.dispatchFrame.raiseCause .frameDispatched)
    ∨ (edgeKind s = .stopCrcDrop ∧ t = s.stopBit.storeLast.rxReset) := by
  have h' : execEdge adc s = .next t := h
  revert h'
  unfold execEdge execEdgeStop execEdgeDrop execEdgeStart execEdgeStray execEdgeData execEdgeStopLeadOk
    execEdgeStopCollision execEdgeStopByte execEdgeStopDispatch execEdgeStopCrcDrop
  cases hk : edgeKind s <;> simp [eq_comm]

/-- The state of a stop bit with an index inside the buffer is one of the five rows (R120). -/
theorem stopKind_ne_outOfRange {r : Rxd} (h : r.idx.toNat ≤ 11) : stopKind r ≠ .stopOutOfRange := by
  unfold stopKind
  repeat' split
  all_goals first | (simp; done) | omega

/-- The only edge that stops is a stop bit past the buffer (log 10). -/
theorem edgeKind_ne_outOfRange (h : s.rxd.idx.toNat ≤ 11) : edgeKind s ≠ .stopOutOfRange := by
  unfold edgeKind
  have := stopKind_ne_outOfRange h
  repeat' split
  · simp
  · simp
  · dsimp only
    repeat' split
    all_goals first | assumption | simp

/-- Where an edge is in a byte and at a stop bit, its row is R120's choice. -/
theorem edgeKind_of_atStop (h : AtStop s) : edgeKind s = stopKind s.rxd := by
  obtain ⟨⟨⟨hx, ha⟩, hlo, hhi⟩, hb⟩ := h
  unfold edgeKind
  simp only [hx, ha, if_false, Bool.false_eq_true]
  rw [if_neg (by omega), if_neg (by omega)]

/-- The rows of a data bit and of a stray edge. -/
theorem edgeKind_of_inWindow (h : InWindow s) (hb : bitIndex s.params s.rxd.cnt.toNat ≤ 7) : edgeKind s = .data := by
  obtain ⟨⟨hx, ha⟩, hlo, hhi⟩ := h
  unfold edgeKind
  simp only [hx, ha, if_false, Bool.false_eq_true]
  rw [if_neg (by omega), if_pos hb]

/-- An edge inside a byte and outside the window is stray (R117). -/
theorem edgeKind_of_stray (h : InByte s)
    (ht : s.rxd.cnt.toNat ≤ rxLo s.params ∨ rxHi s.params ≤ s.rxd.cnt.toNat) : edgeKind s = .stray := by
  obtain ⟨hx, ha⟩ := h
  unfold edgeKind
  simp only [hx, ha, if_false, Bool.false_eq_true]
  rw [if_pos ht]

/-- An edge inside a byte is no start bit and is not dropped. -/
theorem edgeKind_of_await (hx : s.txb.state ≠ .waitSend) (ha : s.rxd.await = true) : edgeKind s = .start := by
  unfold edgeKind
  rw [if_neg hx, if_pos ha]

/-- An edge in WAIT_SEND is dropped (R114). -/
theorem edgeKind_of_waitSend (hx : s.txb.state = .waitSend) : edgeKind s = .drop := by
  unfold edgeKind
  rw [if_pos hx]

/-- The watchdog has expired (R112). -/
theorem timeoutDue_iff : timeoutDue s = true ↔ s.rxd.run = true ∧ s.rxd.cnt.toNat = s.params.timeout := by
  simp [timeoutDue]

end Sys2Proof.Machine
end

