-- ==== Sys2Proof/Laws/Txb.lean ====
section
/-! SUPPORT. TXB's operations: what each can do. -/

namespace Sys2Proof.Machine

variable {s t : State}

/-- The interval is over (R141). -/
theorem compareDue_iff : compareDue s = true ↔ s.txb.state = .idle ∧ s.txb.cnt = s.txb.inc := by
  simp [compareDue]

/-- The scheduling decision (R143). -/
theorem requestDue_iff :
    requestDue s = true ↔
      s.cyc.rxBusy = false ∧ s.txb.period.toNat < (accNew s).toNat ∧ s.cyc.runEligible = true := by
  simp [requestDue, and_assoc]

/-- `acc_new` is the sum modulo 2^16 (R142). -/
theorem accNew_toNat (s : State) : (accNew s).toNat = (s.txb.acc.toNat + s.txb.inc.toNat) % 2 ^ 16 := by
  have := s.txb.inc.isLt
  simp [accNew, BitVec.toNat_add, BitVec.toNat_setWidth]

/-- Every TXB operation completes. -/
theorem execTx_completes {i : Instr} (hi : isTxOp i = true) (s : State) : ∃ t, exec i s = .next t := by
  cases i <;> first
    | exact ⟨_, rfl⟩
    | (cases hi; done)
    | (show ∃ t, execTick s = .next t
       unfold execTick
       split
       · split <;> exact ⟨_, rfl⟩
       · exact ⟨_, rfl⟩)

/-- A TXB operation leaves RXD, RXO, CRC, DIST, the configuration and `h_rdata` alone (R130). -/
theorem execTx_frame {i : Instr} (hi : isTxOp i = true) (h : exec i s = .next t) :
    t.rxd = s.rxd ∧ t.rxo = s.rxo ∧ t.crcAcc = s.crcAcc ∧ t.dist = s.dist ∧ t.txb.period = s.txb.period
      ∧ t.st.irqen = s.st.irqen ∧ t.st.dispPulse = s.st.dispPulse ∧ t.hRdata = s.hRdata ∧ t.params = s.params := by
  cases i <;> first
    | (cases hi; done)
    | (simp only [exec, execTick, execTxCompare, execRspFrame, execRspNone, execDoneOk, execDoneFail, execRunEligible] at h
       repeat' split at h
       all_goals
         cases h
         exact ⟨rfl, rfl, rfl, rfl, rfl, rfl, rfl, rfl, rfl⟩)

end Sys2Proof.Machine
end

