-- ==== Sys2Proof/Tests/Slice0.lean ====
section
/-! SUPPORT. Tests on fixed values: the WellFormed smoke test, decoding of words written out from 30_encoding.md, one step of
each instruction on vectors of 95_test_vectors.md, and a witness of the hypotheses of each obligation. -/

namespace Sys2Proof.Tests

open Sys2Proof Sys2Proof.Machine

/-! ### Helpers -/

/-- The next state's field, where there is a next state. -/
def after (o : Host.Outcome State Fault Refusal) (f : State → α) : Option α :=
  match o with
  | .next t => some (f t)
  | .fault _ | .refused _ => none

/-- The reset state with RXD inside a byte, `t` cycles after its start bit. -/
def inByte (lead : Bool) (t : Word) (byte : Byte) (idx : BitVec 4) (buf : Frame) : State :=
  { State.reset with
    rxd := { await := false, lead := lead, busy := true, run := true, cnt := t, byte := byte, idx := idx, hg := 612,
             lg := 388, gainSel := lead, buf := buf } }

/-- The reset state with TXB in a given state. -/
def withTx (st : TxState) (cnt inc : Byte) (acc period : Word) : State :=
  { State.reset with txb := { state := st, cnt := cnt, inc := inc, acc := acc, period := period } }

/-- The reset state with STATUS flags. -/
def withFlags (f : Flags) : State := { State.reset with st := { State.reset.st with flags := f } }

/-- All four flags. -/
def allFlags : Flags := { rxv := true, txs := true, derr := true, cerr := true }

/-- Ten zero bytes and the two bytes given. -/
def zeroFrame (b10 b11 : Byte) : Frame := #v[0, 0, 0, 0, 0, 0, 0, 0, 0, 0, b10, b11]

/-- The scenario frame of 95_test_vectors.md. -/
def scenario : Frame := #v[1, 0, 0, 0, 0, 0, 0, 0, 0, 0, 0xA0, 0xB0]

/-- The sample table `H[i] = 980 - 60*i` of 43_distance.md. -/
def sampleH : CalTable := #v[980, 920, 860, 800, 740, 680, 620, 560, 500, 440, 380, 320, 260, 200]

/-- The sample table `L[i] = 900 - 50*i`. -/
def sampleL : CalTable := #v[900, 850, 800, 750, 700, 650, 600, 550, 500, 450, 400, 350, 300, 250]

/-- The reset state with the sample tables and host operands. -/
def withTables (hg lg : Sample) : State :=
  { State.reset with dist := { calHigh := sampleH, calLow := sampleL, hgIn := hg, lgIn := lg, out := 0 } }

/-- A cycle with one event vector. -/
def evt (e : Byte) : CycleInput := eventInput e 0 0

/-- A cycle with one host word. -/
def word (w : HostWord) : CycleInput := { CycleInput.idle with host := some w }

/-! ### WellFormed: each check refuses an ill-formed term (R216, R221 to R223) -/

theorem test_wf_cmdRsv : (Instr.cmdRsv 3).wellFormed = false ∧ (Instr.cmdRsv 4).wellFormed = true := by decide
theorem test_wf_wrRo : (Instr.wrRo 0x05).wellFormed = false ∧ (Instr.wrRo 0x3B).wellFormed = true := by decide
theorem test_wf_wrRsv : (Instr.wrRsv 0x10).wellFormed = false ∧ (Instr.wrRsv 0x5E).wellFormed = true := by decide
theorem test_wf_rdWo : (Instr.rdWo 0x04).wellFormed = false ∧ (Instr.rdWo 0x03).wellFormed = true := by decide
theorem test_wf_rdRsv : (Instr.rdRsv 0x4D).wellFormed = false ∧ (Instr.rdRsv 0x4E).wellFormed = true := by decide
theorem test_wf_rd : (Instr.rd 0x02).wellFormed = false ∧ (Instr.rd 0x5D).wellFormed = true := by decide

/-! ### Decoding: words written out from R81 to R85 -/

/-- CMD writes: `we = 1`, `addr = 0000010`, `op = data[7:0]` (R83). -/
theorem test_decode_cmd :
    decodeTableWord 24 0b100000100000000000000000 = some .nop
    ∧ decodeTableWord 24 0b100000100000000000000001 = some .crcInit
    ∧ decodeTableWord 24 0b100000100000000000000010 = some .distEst
    ∧ decodeTableWord 24 0b100000100000000000000011 = some .distEstRx
    ∧ decodeTableWord 24 0b100000101111111100000100 = some (.cmdRsv 0x04) := by decide

/-- Register writes (R82). -/
theorem test_decode_write :
    decodeTableWord 24 0b100000000000000000010100 = some (.wrStatus 0b1010)
    ∧ decodeTableWord 24 0b100000010000000000000100 = some (.wrIrqen 0b0010)
    ∧ decodeTableWord 24 0b100000110000000010100000 = some (.wrCrcData 0xA0)
    ∧ decodeTableWord 24 0b100001010000001100100000 = some (.wrDistHgIn 800)
    ∧ decodeTableWord 24 0b100001100000001001011000 = some (.wrDistLgIn 600)
    ∧ decodeTableWord 24 0b100010000000111101000010 = some (.wrTxPeriod 0x0F42) := by decide

/-- Calibration and illegal writes (R82, R221, R222). -/
theorem test_decode_write_more :
    decodeTableWord 24 0b110011010000000011001000 = some (.wrCalHigh 13 200)
    ∧ decodeTableWord 24 0b110100000000001110000100 = some (.wrCalLow 0 900)
    ∧ decodeTableWord 24 0b100001000001001000110100 = some (.wrRo 0x04)
    ∧ decodeTableWord 24 0b110111100000000000000000 = some (.wrRsv 0x5E) := by decide

/-- Reads and no access (R210, R223, R224). -/
theorem test_decode_read :
    decodeTableWord 24 0b000000110000000000000000 = some (.rdWo 0x03)
    ∧ decodeTableWord 24 0b000011110000000000000000 = some (.rdRsv 0x0F)
    ∧ decodeTableWord 24 0b001110110000000000000000 = some (.rd 0x3B)
    ∧ decodeTableWord 0 0 = some .hbusIdle := by decide

/-- Event vectors (R85). The rows EDGE_DROP to EDGE_STOP_CRC_DROP have the word of EDGE (R114 to R125), TX_COMPARE comes with
a tick and RX_TIMEOUT has no word (R87; logs 12, 21). -/
theorem test_decode_event :
    decodeTableWord 8 0b00000001 = some .reset ∧ decodeTableWord 8 0b00000010 = some (.edge 0)
    ∧ decodeTableWord 8 0b00000100 = some .tick ∧ decodeTableWord 8 0b00011000 = some .rspFrame
    ∧ decodeTableWord 8 0b00001000 = some .rspNone ∧ decodeTableWord 8 0b01100000 = some .doneOk
    ∧ decodeTableWord 8 0b00100000 = some (.doneFail 0) ∧ decodeTableWord 8 0b10000000 = some .runEligible
    ∧ decodeTableWord 8 0b00000000 = none ∧ decodeTableWord 16 0 = none := by decide

/-! ### RXD (95_test_vectors.md 2.1 to 2.3) -/

/-- V-RX-1: where the reciprocal differs from division, and the ends of the window. -/
theorem test_bitIndex :
    [135, 402, 403, 940, 1209, 1477, 1746, 2015, 2282, 2283, 2551, 2552, 2554].map (bitIndex Config.suggested)
      = [0, 0, 1, 3, 4, 5, 6, 7, 7, 8, 8, 9, 9] := by decide
/-- V-RX-2. -/
theorem test_edge :
    after (exec (.edge 612) State.reset) (fun t => (memRead t 0x0C, memRead t 0x00, memRead t 0x0D, memRead t 0x10))
      = some (0x010E, 0x0081, 1, 612) := by decide
/-- V-RX-8a: a payload start bit keeps the gain samples (R116). -/
theorem test_edgeStart :
    after (exec (.edgeStart 99)
        { State.reset with rxd := { State.reset.rxd with lead := false, hg := 612, byte := 7 } })
      (fun t => (t.rxd.hg, t.rxd.byte, t.rxd.gainSel)) = some (612, 0, false) := by decide
/-- V-RX-4. -/
theorem test_edgeStray :
    after (exec .edgeStray (inByte true 134 0 0 scenario)) (fun t => (memRead t 0x0C, t.rxd.cnt, t.rxd.hg))
      = some (0x0003, 0, 612) := by decide
/-- V-RX-5a: the other end of the window. -/
theorem test_edgeStray_high :
    after (exec .edgeStray (inByte true 2555 0 0 scenario)) (fun t => memRead t 0x0C) = some 0x0003 := by decide
/-- V-RX-6c: bit 7 at `t = 2282`. -/
theorem test_edgeData :
    after (exec .edgeData (inByte true 2282 0 0 scenario)) (fun t => t.rxd.byte) = some 0x80 := by decide
/-- V-RX-8b: a second edge in the window of bit 0 changes nothing. -/
theorem test_edgeData_again :
    after (exec .edgeData (inByte false 300 1 0 scenario)) (fun t => t.rxd.byte) = some 0x01 := by decide
/-- V-RX-5c, by EDGE_STOP. -/
theorem test_edgeStop :
    after (exec (.edgeStop 388) (inByte true 2283 0 0 scenario)) (fun t => memRead t 0x0C) = some 0x000D := by decide
/-- V-RX-3 (`S@2422` but for the counter of R126). -/
theorem test_edgeStopLeadOk :
    after (exec (.edgeStopLeadOk 77) (inByte true 2421 0 5 scenario)) (fun t => (memRead t 0x0C, t.rxd.lg))
      = some (0x000D, 77) := by decide
/-- V-RX-6a. -/
theorem test_edgeStopCollision :
    after (exec (.edgeStopCollision 77) (inByte true 2421 1 0 scenario)) (fun t => (memRead t 0x0C, t.rxd.lg, t.st))
      = some (0x0003, 77, State.reset.st) := by decide
/-- V-RX-8a. -/
theorem test_edgeStopByte :
    after (exec .edgeStopByte (inByte false 2421 0xA5 0 (zeroFrame 0 0)))
      (fun t => (memRead t 0x20, memRead t 0x21, memRead t 0x0C, t.rxd.byte)) = some (0xA5, 0, 0x001D, 0xA5) := by decide
/-- V-RX-10. -/
theorem test_edgeStopDispatch :
    after (exec .edgeStopDispatch (inByte false 2421 0xB0 11 #v[1, 0, 0, 0, 0, 0, 0, 0, 0, 0, 0xA0, 0x55]))
      (fun t => (t.rxo, memRead t 0x0C, memRead t 0x00, rxDispatch t))
      = some ({ frame := scenario, hg := 612, lg := 388 }, 0x0003, 0x0002, true) := by decide
/-- V-RX-11. -/
theorem test_edgeStopCrcDrop :
    after (exec .edgeStopCrcDrop (inByte false 2421 0xB1 11 scenario))
      (fun t => (t.rxo, memRead t 0x2B, memRead t 0x0C, memRead t 0x00))
      = some (State.reset.rxo, 0xB1, 0x0003, 0x0000) := by decide
/-- V-RX-9. -/
theorem test_edgeDrop :
    after (exec .edgeDrop (withTx .waitSend 0 0xFF 0 0)) (fun t => t.rxd) = some State.reset.rxd := by decide
/-- V-RX-7a. -/
theorem test_rxTimeout :
    after (exec .rxTimeout (inByte true 2959 0 0 scenario)) (fun t => (memRead t 0x0C, t.rxd.cnt, t.rxd.hg))
      = some (0x0003, 0, 612) := by decide
/-- V-RX-7a: one cycle earlier nothing happens. -/
theorem test_rxTimeout_early :
    after (exec .rxTimeout (inByte true 2958 0 0 scenario)) (fun t => t.rxd.cnt) = some 2958 := by decide
/-- V-RX-7b: timeout and edge in one cycle. -/
theorem test_step_timeout_edge :
    after (step ((inByte true 2959 0 0 scenario).withInputs [eventInput 0x02 300 0]))
      (fun t => (memRead t 0x0C, t.rxd.cnt, t.rxd.hg)) = some (0x010E, 1, 300) := by decide

/-! ### CRC (2.4) -/

/-- V-CRC-1, V-CRC-2, V-CRC-5, V-CRC-7. -/
theorem test_crc16 :
    crc16 [0x31, 0x32, 0x33, 0x34, 0x35, 0x36, 0x37, 0x38, 0x39] = 0x6F91
    ∧ crc16 [1, 0, 0, 0, 0, 0, 0, 0, 0, 0] = 0xB0A0 ∧ crc16 (List.replicate 10 0xFF) = 0x8765
    ∧ crc16 [0x12, 0x34, 0x56, 0x78, 0x9A, 0xBC, 0xDE, 0xF0, 0x11, 0x7F] = 0x57D4 := by decide
/-- V-CRC-11, V-CRC-12. -/
theorem test_wrCrcData :
    after (exec (.wrCrcData 0xFF) { State.reset with crcAcc := 0 }) (fun t => t.crcAcc) = some 0x0F78
    ∧ after (exec (.wrCrcData 0x56) { State.reset with crcAcc := 0x1234 }) (fun t => t.crcAcc) = some 0x4006 := by decide
/-- V-CRC-13. -/
theorem test_crcInit :
    after (exec .crcInit { State.reset with crcAcc := 0x1234 }) (fun t => memRead t 0x04) = some 0xFFFF := by decide
/-- The scenario frame passes the check, and with bit 0 of byte 11 flipped fails it (V-CRC-9). -/
theorem test_frameOk : frameOk scenario = true ∧ frameOk (setFrameByte scenario 11 0xB1) = false := by decide

/-! ### DIST (2.5) -/

/-- V-DIST-1a, 1b, 1d, 1h, 1p. -/
theorem test_estimate :
    [(612, 388), (800, 600), (950, 250), (0, 0), (860, 760)].map
      (fun (x : Sample × Sample) => estimate Config.suggested sampleH sampleL x.1 x.2)
      = [some 63, some 55, some 123, some 114, some 46] := by decide
/-- V-DIST-5. -/
theorem test_estimate_wraps :
    estimate { Config.suggested with distScale := 255 } sampleH sampleL 100 0 = some 111 := by decide
/-- P2: the host's operands. -/
theorem test_distEst : after (exec .distEst (withTables 800 600)) (fun t => memRead t 0x07) = some 55 := by decide
/-- V-H-13: with reset tables a zero divisor; the value of `dist_out` is free. -/
theorem test_distEst_derr : after (exec .distEst State.reset) (fun t => memRead t 0x00) = some 0x0008 := by decide
/-- P2: the samples of the last dispatched frame, as latched at the start of the cycle. -/
theorem test_distEstRx :
    after (step (State.withInputs { withTables 1 1 with rxo := { frame := scenario, hg := 612, lg := 388 } } [word 0x820003]))
      (fun t => memRead t 0x07) = some 63 := by decide
/-- V-H-15. -/
theorem test_distEstRx_derr :
    after (step (State.reset.withInputs [word 0x820003])) (fun t => memRead t 0x00) = some 0x0008 := by decide

/-! ### TXB (2.6) -/

theorem test_tick : after (exec .tick (withTx .idle 3 9 0 0)) (fun t => (t.txb.cnt, t.txb.acc)) = some (4, 0) := by decide
/-- V-TX-7: the end of an interval of one tick. -/
theorem test_tick_end :
    after (step ((withTx .idle 0 0 255 0).withInputs [evt 0x84])) (fun t => (t.txb.state, t.txb.acc, t.txb.inc))
      = some (.waitFrame, 255, 0xFF) := by decide
/-- V-TX-10: the wait wraps. -/
theorem test_txCompare_wraps :
    after (exec .txCompare (withTx .idle 255 255 65535 0)) (fun t => (t.txb.state, t.txb.acc, t.txb.cnt))
      = some (.idle, 254, 0) := by decide
/-- V-TX-12: the compare in the cycle of a WR_TX_PERIOD uses the old period. -/
theorem test_txCompare_oldPeriod :
    after (step ((withTx .idle 255 255 0 3906).withInputs [{ evt 0x84 with host := some 0x880000 }]))
      (fun t => (t.txb.state, t.txb.acc, t.txb.period)) = some (.idle, 255, 0) := by decide
/-- P3, cycle 259. -/
theorem test_rspFrame : after (exec .rspFrame (withTx .waitFrame 0 255 255 0)) (fun t => memRead t 0x00) = some 0x0040 := by
  decide
/-- V-TX-8. -/
theorem test_rspNone :
    after (exec .rspNone (withTx .waitFrame 0 255 257 0)) (fun t => (t.txb.state, t.txb.acc)) = some (.idle, 257) := by decide
/-- V-TX-9. -/
theorem test_doneOk :
    after (exec .doneOk (withTx .waitSend 0 255 512 0)) (fun t => (t.txb.state, t.txb.acc, memRead t 0x00, txSuccess t))
      = some (.idle, 0, 0x0004, true) := by decide
/-- P3, cycle 263. -/
theorem test_doneFail :
    after (exec (.doneFail 2) (withTx .waitSend 0 255 255 0)) (fun t => (t.txb.state, t.txb.acc, t.txb.inc))
      = some (.idle, 255, 2) := by decide
/-- R143: without the level of `run_eligible` no request. -/
theorem test_runEligible :
    after (step ((withTx .idle 0 0 255 0).withInputs [evt 0x04])) (fun t => t.txb.state) = some .idle
    ∧ after (exec .runEligible State.reset) (fun t => t.cyc.runEligible) = some true := by decide
/-- V-TX-13. -/
theorem test_ignored :
    after (exec .tick (withTx .waitSend 0 9 0 0)) (fun t => t.txb) = some (withTx .waitSend 0 9 0 0).txb
    ∧ after (exec .doneOk (withTx .waitFrame 0 9 5 0)) (fun t => t.txb) = some (withTx .waitFrame 0 9 5 0).txb := by decide

/-! ### Host access (2.7) -/

/-- V-H-10. -/
theorem test_nop : after (exec .nop State.reset) (fun t => t) = some State.reset := by decide
/-- V-H-9. -/
theorem test_cmdRsv : after (exec (.cmdRsv 7) State.reset) (fun t => memRead t 0x00) = some 0x0010 := by decide
/-- V-H-11. -/
theorem test_wrStatus : after (exec (.wrStatus 0x8) (withFlags allFlags)) (fun t => memRead t 0x00) = some 0x000E := by decide
/-- V-H-12: the flag's set wins. -/
theorem test_wrStatus_loses :
    after (step ((inByte false 2421 0xB0 11 scenario).withInputs [{ evt 0x02 with host := some 0x800002 }]))
      (fun t => (memRead t 0x00, t.hRdata)) = some (0x0002, 0) := by decide
/-- V-H-5. -/
theorem test_wrIrqen : after (exec (.wrIrqen 0xF) State.reset) (fun t => memRead t 0x01) = some 0x001E := by decide
/-- V-H-16. -/
theorem test_wrIrqen_irq :
    after (exec (.wrIrqen 0x2) (withFlags { Flags.none with txs := true })) irqO = some true
    ∧ after (exec (.wrIrqen 0x1) (withFlags { Flags.none with txs := true })) irqO = some false := by decide
/-- V-H-6. -/
theorem test_wrDistHgIn :
    after (step (State.reset.withInputs [word 0x85FFFF])) (fun t => (memRead t 0x05, memRead t 0x06)) = some (0x3FF, 0) := by
  decide
theorem test_wrDistLgIn :
    after (exec (.wrDistLgIn 600) State.reset) (fun t => (memRead t 0x05, memRead t 0x06)) = some (0, 600) := by decide
theorem test_wrTxPeriod : after (exec (.wrTxPeriod 0x1234) State.reset) (fun t => memRead t 0x08) = some 0x1234 := by decide
theorem test_wrCalHigh :
    after (exec (.wrCalHigh 13 200) State.reset) (fun t => (memRead t 0x4D, memRead t 0x4C, memRead t 0x5D))
      = some (200, 0, 0) := by decide
theorem test_wrCalLow :
    after (exec (.wrCalLow 0 900) State.reset) (fun t => (memRead t 0x50, memRead t 0x51, memRead t 0x40))
      = some (900, 0, 0) := by decide
/-- V-H-7. -/
theorem test_wrRo : after (exec (.wrRo 0x04) State.reset) (fun t => (memRead t 0x00, memRead t 0x04)) = some (0x10, 0xFFFF) := by
  decide
/-- V-H-8. -/
theorem test_wrRsv : after (exec (.wrRsv 0x0F) State.reset) (fun t => (memRead t 0x00, t.crcAcc)) = some (0x10, 0xFFFF) := by
  decide
/-- V-H-3. -/
theorem test_rdWo : after (exec (.rdWo 0x03) State.reset) (fun t => (t.hRdata, memRead t 0x00)) = some (0, 0) := by decide
/-- V-H-3. -/
theorem test_rdRsv : after (exec (.rdRsv 0x7F) State.reset) (fun t => (t.hRdata, memRead t 0x00)) = some (0, 0) := by decide
/-- V-H-2. -/
theorem test_rd :
    after (exec (.rd 0x08) State.reset) (fun t => t.hRdata) = some 0x0F42
    ∧ after (exec (.rd 0x0C) State.reset) (fun t => t.hRdata) = some 0x0003 := by decide
/-- R224. -/
theorem test_hbusIdle :
    after (step (State.withInputs { State.reset with hRdata := 9 } [CycleInput.idle])) (fun t => t.hRdata) = some 0 := by
  decide
/-- V-H-17: the write of a reset cycle is discarded, and a read returns `S`. -/
theorem test_reset :
    after (step ((withFlags allFlags).withInputs [{ evt 0xFF with host := some 0x85FFFF }]))
      (fun t => (t.dist.hgIn, t.st.flags)) = some (0, Flags.none)
    ∧ after (step ((withFlags allFlags).withInputs [{ evt 0x01 with host := some 0x000000 }])) (fun t => t.hRdata)
      = some 0x001E := by decide
/-- `withFetchWord` places the row where the next step takes its inputs. -/
theorem test_withFetchWord :
    after (step (State.reset.withFetchWord 24 0x8300FF)) (fun t => t.crcAcc) = some 0x00FF
    ∧ after (step (State.reset.withFetchWord 8 0x02)) (fun t => t.rxd.await) = some false := by decide

/-! ### Witnesses: states and operands that meet the hypotheses of the obligation named -/

/-- The reset state is good. -/
theorem reset_good : State.reset.Inv :=
  ⟨by decide, ⟨rfl, rfl, fun _ => rfl, fun h => (by cases h), fun h => (by cases h), by decide, rfl⟩,
    ⟨by decide, fun _ => rfl⟩, ⟨fun h => (by cases h), fun h => (by cases h), by decide⟩, rfl⟩

/-- A state inside the last payload byte in the cycle of a timeout is good. -/
theorem inByte_good : (inByte false 2959 0 11 scenario).Inv :=
  ⟨by decide, ⟨rfl, rfl, fun h => (by cases h), fun _ => (by decide), fun _ => (by decide), by decide, rfl⟩,
    ⟨by decide, fun _ => rfl⟩, ⟨fun h => (by cases h), fun h => (by cases h), by decide⟩, rfl⟩

/-- Goodness does not depend on the inputs to come. -/
theorem inByte_good_withInputs (l : List CycleInput) : ((inByte false 2959 0 11 scenario).withInputs l).Inv :=
  ⟨inByte_good.params, inByte_good.rxd, inByte_good.txb, inByte_good.st, inByte_good.cyc⟩

theorem witness_DecodeEncodeAgree :
    (Instr.cmdRsv 4).wellFormed = true ∧ (Instr.wrRo 0x3B).wellFormed = true ∧ (Instr.wrCalHigh 13 0xFFFF).wellFormed = true
      ∧ (Instr.rd 0x00).wellFormed = true ∧ (Instr.edgeStart 1023).wellFormed = true := by decide
theorem witness_EventVectorDecodes : (0xFF : Byte).getLsbD 0 = true ∧ (0xFE : Byte).getLsbD 0 = false := by decide
/-- What `StepRunsHostAccess` asks of a state. -/
abbrev hostOnly (s : State) (isRead : Bool) : Prop :=
  paramsLegal s.params = true ∧ s.nextInput.evt = 0 ∧ timeoutDue s = false
    ∧ isHostRead (decodeHost s.nextInput.host) = isRead

/-- What `StepRunsEventOperation` asks of a state and an operation. -/
abbrev eventOnly (s : State) (i : Instr) : Prop :=
  paramsLegal s.params = true ∧ s.nextInput.host = none ∧ timeoutDue s = false
    ∧ decodeEvents s.nextInput.evt s.nextInput.adc s.nextInput.rnd = [i]

theorem witness_StepRunsHostAccess_read : hostOnly (State.reset.withInputs [word 0x040000]) true := by decide
theorem witness_StepRunsHostAccess_write : hostOnly (State.reset.withInputs [word 0x820001]) false := by decide
theorem witness_StepRunsEventOperation :
    eventOnly (State.reset.withInputs [evt 0x01]) .reset ∧ eventOnly (State.reset.withInputs [evt 0x02]) (.edge 0)
    ∧ eventOnly (State.reset.withInputs [evt 0x04]) .tick ∧ eventOnly (State.reset.withInputs [evt 0x80]) .runEligible := by
  decide
theorem witness_StepRunsEventOperation_timeout :
    let s := (inByte true 2959 0 0 scenario).withInputs [CycleInput.idle]
    paramsLegal s.params = true ∧ s.nextInput.evt = 0 ∧ s.nextInput.host = none ∧ timeoutDue s = true := by decide
theorem witness_StepRunsEventOperation_cycle :
    let s := (inByte true 2959 0 0 scenario).withInputs [{ evt 0x86 with host := some 0x820001 }]
    paramsLegal s.params = true ∧ s.nextInput.evt.getLsbD 0 = false := by decide
theorem witness_TimeoutThenStartBit :
    let s := (inByte true 2959 0 0 scenario).withInputs [evt 0x02]
    paramsLegal s.params = true ∧ timeoutDue s = true ∧ s.txb.state ≠ .waitSend
      ∧ s.nextInput.evt.getLsbD 0 = false ∧ s.nextInput.evt.getLsbD 1 = true := by decide
theorem witness_IllegalParamsRefused :
    (∀ b ∈ [0, 1, 6899], ¬(2 ≤ b ∧ b ≤ 6898)) ∧ (∀ b ∈ [0, 65536], ¬(1 ≤ b ∧ b ≤ 65535)) ∧ ¬(900 < 900) ∧ ¬(1 ≤ 0) := by
  decide
theorem witness_EdgeStartBeginsByte :
    ∀ lead ∈ [true, false],
      let s := { State.reset with rxd := { State.reset.rxd with lead := lead } }
      s.txb.state ≠ .waitSend ∧ s.rxd.await = true := by decide
theorem witness_EdgeStrayAborts :
    (InByte (inByte true 134 0 0 scenario) ∧ (134 : Word).toNat ≤ State.reset.params.bitTime / 2)
    ∧ InByte (inByte true 2555 0 0 scenario)
    ∧ 9 * State.reset.params.bitTime + State.reset.params.bitTime / 2 ≤ (2555 : Word).toNat := by decide
theorem witness_EdgeDataSetsBit :
    (InWindow (inByte false 135 0 0 scenario) ∧ bitIndex Config.suggested 135 ≤ 7)
    ∧ InWindow (inByte false 2282 0 0 scenario) ∧ bitIndex Config.suggested 2282 ≤ 7 := by decide
theorem witness_StopOfCleanLeadingByte :
    AtStop (inByte true 2283 0 0 scenario) ∧ AtStop (inByte true 2554 0 0 scenario)
    ∧ (inByte true 2283 0 0 scenario).rxd.lead = true ∧ (inByte true 2283 0 0 scenario).rxd.byte = 0 := by decide
theorem witness_StopOfNonzeroLeadingByte :
    ∀ b ∈ [(1 : Byte), 0xFF],
      let s := inByte true 2421 b 0 scenario
      AtStop s ∧ s.rxd.lead = true ∧ s.rxd.byte ≠ 0 := by decide
theorem witness_StopOfPayloadByte :
    ∀ i ∈ [(0 : BitVec 4), 10],
      let s := inByte false 2421 0xA5 i scenario
      AtStop s ∧ s.rxd.lead = false ∧ s.rxd.idx.toNat ≤ 10 := by decide
theorem witness_LastStopDispatchesFrame :
    let s := inByte false 2421 0xB0 11 (setFrameByte scenario 11 0)
    AtStop s ∧ s.rxd.lead = false ∧ s.rxd.idx.toNat = 11 ∧ (∀ k < 11, frameByte scenario k = frameByte s.rxd.buf k)
      ∧ frameByte scenario 11 = s.rxd.byte ∧ frameOk scenario = true := by decide
theorem witness_LastStopDropsBadFrame :
    let s := inByte false 2421 0xB1 11 scenario
    let f := setFrameByte scenario 11 0xB1
    AtStop s ∧ s.rxd.lead = false ∧ s.rxd.idx.toNat = 11 ∧ (∀ k < 11, frameByte f k = frameByte s.rxd.buf k)
      ∧ frameByte f 11 = s.rxd.byte ∧ frameOk f = false := by decide
theorem witness_StopBeyondBufferFaults :
    ∀ i ∈ [(12 : BitVec 4), 15],
      let s := inByte false 2421 0 i scenario
      AtStop s ∧ s.rxd.lead = false ∧ 11 < s.rxd.idx.toNat := by decide
theorem witness_EdgeDroppedWhileSending : (withTx .waitSend 0 0 0 0).txb.state = .waitSend := rfl
theorem witness_WatchdogResets :
    (let s := inByte true 2959 0 0 scenario; s.rxd.run = true ∧ s.rxd.cnt.toNat = s.params.timeout)
    ∧ (let s := inByte true 2958 0 0 scenario; ¬(s.rxd.run = true ∧ s.rxd.cnt.toNat = s.params.timeout)) := by decide
theorem witness_CounterAdvances :
    (∃ t, step ((inByte true 2959 0 0 scenario).withInputs [evt 0x02]) = .next t ∧ t.rxd.cnt = 1)
    ∧ (∃ t, step ((inByte true 2959 0 0 scenario).withInputs [evt 0xFC]) = .next t ∧ t.rxd.cnt = 0)
    ∧ (∃ t, step ((inByte true 2555 0 0 scenario).withInputs [evt 0x02]) = .next t ∧ t.rxd.cnt = 0)
    ∧ (∃ t, step ((inByte true 2421 0 0 scenario).withInputs [evt 0x02]) = .next t ∧ t.rxd.cnt = 2422)
    ∧ (0xFC : Byte).getLsbD 0 = false ∧ timeoutDue (inByte true 2959 0 0 scenario) = true
    ∧ edgeKind (inByte true 2555 0 0 scenario) = .stray ∧ edgeKind (inByte true 2421 0 0 scenario) = .stopLeadOk :=
  ⟨⟨_, rfl, rfl⟩, ⟨_, rfl, rfl⟩, ⟨_, rfl, rfl⟩, ⟨_, rfl, rfl⟩, by decide⟩
theorem witness_BitIndexInRange :
    ∀ b ∈ [2, 269, 6898],
      let p := { Config.suggested with bitTime := b }
      paramsLegal p = true ∧ rxLo p < rxLo p + 1 ∧ rxLo p + 1 < rxHi p ∧ rxLo p < rxHi p - 1 ∧ rxHi p - 1 < rxHi p := by
  decide
theorem witness_WatchdogReturnsToIdle :
    let s := (inByte false 2959 0 11 scenario).withInputs [CycleInput.idle]
    s.Inv ∧ s.rxd.run = true ∧ (∀ c ∈ [CycleInput.idle], quietInput c = true)
      ∧ [CycleInput.idle].length = s.params.timeout - s.rxd.cnt.toNat + 1 ∧ s.env.schedule = [CycleInput.idle] ++ [] :=
  ⟨inByte_good_withInputs _, rfl, by decide, by decide, rfl⟩
theorem witness_BuiltFrameValidates :
    let b := List.replicate 10 (0 : Byte)
    let f := zeroFrame 0x87 0x9C
    let v := (after (runOps (.crcInit :: b.map Instr.wrCrcData) State.reset) fun t => memRead t 0x04).getD 0
    b.length = 10 ∧ f.toList.take 10 = b ∧ frameByte f 10 = v.extractLsb' 0 8 ∧ frameByte f 11 = v.extractLsb' 8 8 := by
  decide
theorem witness_OneByteChangeRejected :
    ∀ i ∈ [0, 9, 10, 11],
      let g := setFrameByte scenario i 0x11
      frameOk scenario = true ∧ scenario ≠ g ∧ i < 12 ∧ ∀ k < 12, k ≠ i → frameByte g k = frameByte scenario k := by decide
theorem witness_BucketSearchIsLeast :
    findBucket sampleH 980 = some 1 ∧ findBucket sampleH 201 = some 13 ∧ findBucket sampleH 200 = none := by decide
theorem witness_SegmentEndpoints :
    ∀ k ∈ [1, 13], 1 ≤ k ∧ k ≤ 13 ∧ calInt sampleH k ≠ calInt sampleH (k - 1) := by decide
theorem witness_SegmentBetweenEnds :
    ∀ k ∈ [1, 13], 1 ≤ k ∧ k ≤ 13 ∧ calInt sampleH k < calInt sampleH (k - 1)
      ∧ calInt sampleH k < calInt sampleH k + 1 ∧ calInt sampleH k + 1 ≤ calInt sampleH (k - 1) := by decide
theorem witness_BlendBetweenChannels :
    ∀ hg ∈ [(701 : Int), 899], (Config.suggested.hgMin : Int) < hg ∧ hg < Config.suggested.hgSat := by decide
theorem witness_EstimateErrorIff :
    paramsLegal Config.suggested = true
    ∧ estimate Config.suggested State.reset.dist.calHigh State.reset.dist.calLow 0 0 = none
    ∧ estimate Config.suggested State.reset.dist.calHigh State.reset.dist.calLow 1 0 = some 33 := by decide
theorem witness_EstimateMonotone :
    let p := Config.suggested
    paramsLegal p = true ∧ p.distOff + p.distScale * 13 / 2 ≤ 255
      ∧ (∀ i < 14, 1 ≤ i → calInt sampleH i < calInt sampleH (i - 1)) ∧ calInt sampleH 13 < (201 : Sample).toNat
      ∧ (201 : Sample).toNat ≤ (700 : Sample).toNat ∧ (700 : Sample).toNat ≤ p.hgMin
      ∧ estimate p sampleH sampleL 201 0 = some 97 ∧ estimate p sampleH sampleL 700 1 = some 56 := by decide
theorem witness_DistanceCommands :
    ∀ x ∈ [(withTables 800 600, some 55, some 114), (State.reset, none, none)],
      let s := x.1
      estimate s.params s.dist.calHigh s.dist.calLow s.dist.hgIn s.dist.lgIn = x.2.1
        ∧ estimate s.params s.dist.calHigh s.dist.calLow s.cyc.rxoHg s.cyc.rxoLg = x.2.2 := by decide
/-- A cycle that dispatches a frame with other samples than RXO holds, beside a DIST_EST_RX (R190). -/
def dispatchAndEstimate : State :=
  State.withInputs
    { inByte false 2421 0xB0 11 scenario with
      dist := (withTables 800 600).dist, rxo := { frame := zeroFrame 0 0, hg := 100, lg := 0 } }
    [{ evt 0x02 with host := some 0x820003 }]

theorem witness_DistanceCommands_cycle :
    (∃ t, step dispatchAndEstimate = .next t ∧ t.rxo.hg = 612 ∧ t.dist.out = 106)
    ∧ dispatchAndEstimate.nextInput.evt.getLsbD 0 = false
    ∧ decodeHost dispatchAndEstimate.nextInput.host = .distEstRx
    ∧ estimate Config.suggested sampleH sampleL 100 0 = some 106 :=
  ⟨⟨_, rfl, rfl, by decide⟩, by decide⟩
theorem witness_DistanceCommands_cycle_derr :
    ∃ t, step (State.reset.withInputs [{ evt 0x02 with host := some 0x820002 }]) = .next t ∧ t.st.flags.derr = true :=
  ⟨_, rfl, by decide⟩
theorem witness_TickCountsInIdle :
    (∀ c ∈ [(0 : Byte), 8], let s := withTx .idle c 9 0 0; s.txb.state = .idle ∧ s.txb.cnt ≠ s.txb.inc)
    ∧ let s := withTx .idle 9 9 0 0
      s.txb.state = .idle ∧ s.txb.cnt = s.txb.inc := by decide
theorem witness_CompareDecides :
    let s := withTx .idle 255 255 65535 0
    s.txb.state = .idle ∧ s.txb.cnt = s.txb.inc := by decide
/-- A request in a cycle with an edge and a write of TX_PERIOD, and none with the period at the sum (R143). -/
theorem witness_CompareDecides_cycle :
    (∃ t, step ((withTx .idle 255 255 3825 4079).withInputs [{ evt 0x86 with host := some 0x88FFFF }]) = .next t
      ∧ t.txb.state = .waitFrame ∧ t.txb.acc = 4080)
    ∧ ∃ t, step ((withTx .idle 255 255 3825 4080).withInputs [{ evt 0x86 with host := some 0x880000 }]) = .next t
      ∧ t.txb.state = .idle :=
  ⟨⟨_, rfl, by decide, by decide⟩, ⟨_, rfl, by decide⟩⟩
theorem witness_HandshakeAnswers :
    (withTx .waitFrame 0 0 0 0).txb.state = .waitFrame ∧ (withTx .waitSend 0 0 0 0).txb.state = .waitSend := by decide
theorem witness_TxInputsIgnoredElsewhere :
    (withTx .waitFrame 0 0 0 0).txb.state ≠ .idle ∧ (withTx .idle 0 0 0 0).txb.state ≠ .waitFrame
      ∧ (withTx .idle 0 0 0 0).txb.state ≠ .waitSend := by decide
theorem witness_NoRequestWhileBusy :
    ∃ s t u v : State, step s = .next t ∧ s.txb.state = .idle ∧ s.rxd.busy = true
      ∧ step u = .next v ∧ u.txb.state = .idle ∧ u.txb.period = 0xFFFF :=
  ⟨(inByte true 5 0 0 scenario).withInputs [evt 0x84], _, (withTx .idle 255 255 0 0xFFFF).withInputs [evt 0x84], _,
    rfl, rfl, rfl, rfl, rfl, rfl⟩
theorem witness_IntervalLength :
    (let s := (withTx .idle 255 255 0 0).withInputs [tickInput];
      s.Inv ∧ s.txb.state = .idle ∧ s.txb.cnt.toNat + 1 ≤ s.txb.inc.toNat + 1
        ∧ s.txb.cnt.toNat + 1 = s.txb.inc.toNat + 1 ∧ s.env.schedule = List.replicate 1 tickInput ++ [])
    ∧ let s := (withTx .idle 0 1 0 0).withInputs [tickInput]
      s.Inv ∧ s.txb.state = .idle ∧ s.txb.cnt.toNat + 1 ≤ s.txb.inc.toNat
        ∧ s.env.schedule = List.replicate 1 tickInput ++ [] :=
  ⟨⟨⟨by decide, reset_good.rxd, ⟨by decide, fun h => absurd rfl h⟩, reset_good.st, rfl⟩, rfl, by decide, by decide, rfl⟩,
    ⟨by decide, reset_good.rxd, ⟨by decide, fun _ => rfl⟩, reset_good.st, rfl⟩, rfl, by decide, rfl⟩
theorem witness_ReadsHaveNoEffect :
    ∀ a ∈ [(0x02 : Addr), 0x03, 0x0F, 0x14, 0x1F, 0x2C, 0x3F, 0x4E, 0x5E, 0x7F], a.toNat ∈ woAddrs ∨ a.toNat ∈ rsvAddrs := by
  decide
theorem witness_HostReadSeesCycleStart :
    ∃ s t : State, step s = .next t ∧ hostReadValue s s.nextInput = 0x0F42 :=
  ⟨State.reset.withInputs [{ evt 0x01 with host := some 0x080000 }], _, rfl, by decide⟩
theorem witness_FlagsAreSticky :
    ∃ s t : State, step s = .next t ∧ s.nextInput.evt.getLsbD 0 = false ∧ (∀ c, getFlag s.st.flags c = true)
      ∧ ∀ clr, decodeHost s.nextInput.host ≠ .wrStatus clr :=
  ⟨(withFlags allFlags).withInputs [word 0x820001], _, rfl, rfl, fun c => by cases c <;> rfl, fun _ h => by cases h⟩
theorem witness_RaisedCauseWins :
    (∃ s t : State, step s = .next t ∧ s.nextInput.evt.getLsbD 0 = false ∧ timeoutDue s = false
      ∧ s.nextInput.evt.getLsbD 1 = true ∧ edgeKind s = .stopDispatch ∧ decodeHost s.nextInput.host = .wrStatus 1)
    ∧ ∃ s t : State, step s = .next t ∧ s.nextInput.evt.getLsbD 0 = false ∧ s.txb.state = .waitSend
      ∧ s.nextInput.evt.getLsbD 5 = true ∧ s.nextInput.evt.getLsbD 6 = true :=
  ⟨⟨(inByte false 2421 0xB0 11 scenario).withInputs [{ evt 0x02 with host := some 0x800002 }], _,
      rfl, rfl, rfl, rfl, by decide, by decide⟩,
    ⟨(withTx .waitSend 0 0 0 0).withInputs [evt 0x60], _, rfl, rfl, rfl, rfl, rfl⟩⟩
theorem witness_RaisedCauseWins_derr :
    ∃ s t : State, step s = .next t ∧ s.nextInput.evt.getLsbD 0 = false
      ∧ causeRaised s s.nextInput .estimatorError ∧ t.st.dispPulse = false :=
  ⟨State.reset.withInputs [{ evt 0x06 with host := some 0x820002 }], _, rfl, rfl, .inl (by decide), rfl⟩
theorem witness_RaisedCauseWins_cerr :
    ∃ s t : State, step s = .next t ∧ s.nextInput.evt.getLsbD 0 = false ∧ causeRaised s s.nextInput .commandError :=
  ⟨State.reset.withInputs [{ evt 0x06 with host := some 0x8F0001 }], _, rfl, rfl, .inr ⟨0x0F, .inr (by decide)⟩⟩
/-- No cause raised: a clear of RXV, and the other flags as they were. -/
theorem witness_RaisedCauseWins_clear :
    ∃ s t : State, step s = .next t ∧ s.nextInput.evt.getLsbD 0 = false
      ∧ ¬causeRaised s s.nextInput .frameDispatched ∧ ¬causeRaised s s.nextInput .transmitSuccess
      ∧ decodeHost s.nextInput.host = .wrStatus 1 ∧ t.st.flags = { allFlags with rxv := false } :=
  ⟨(withFlags allFlags).withInputs [{ evt 0x02 with host := some 0x800002 }], _, rfl, rfl,
    fun h => absurd h.2.2 (by decide), fun h => absurd h.1 (by decide), by decide, by decide⟩
theorem witness_UnitsWriteDisjointState :
    (∃ t, exec .crcInit { State.reset with crcAcc := 0 } = .next t ∧ isHostOp .crcInit = true ∧ t.crcAcc ≠ 0)
    ∧ (∃ t, exec .rspNone State.reset = .next t ∧ isTxOp .rspNone = true)
    ∧ (∃ t, exec .edgeStopDispatch (inByte false 2421 0xB0 11 scenario) = .next t ∧ isRxOp .edgeStopDispatch = true
      ∧ t.rxo ≠ State.reset.rxo) :=
  ⟨⟨_, rfl, rfl, by decide⟩, ⟨_, rfl, rfl⟩, ⟨_, rfl, rfl, by decide⟩⟩
theorem witness_EdgesInvisibleWhileSending : ((withTx .waitSend 0 0 0 0).withInputs [evt 0x02]).txb.state = .waitSend := rfl
theorem witness_DrawsReadOnlyWhereStated :
    ((0x60 : Byte).getLsbD 6 = true ∧ (0x21 : Byte).getLsbD 0 = true ∧ (withTx .idle 0 0 0 0).txb.state ≠ .waitSend)
    ∧ (0xFD : Byte).getLsbD 1 = false ∧ (withTx .waitSend 0 0 0 0).txb.state = .waitSend
    ∧ timeoutDue (inByte true 134 0 0 scenario) = false ∧ edgeKind (inByte true 134 0 0 scenario) = .stray
    ∧ timeoutDue (inByte true 2282 0 0 scenario) = false ∧ edgeKind (inByte true 2282 0 0 scenario) = .data
    ∧ (inByte false 2283 0 0 scenario).rxd.lead = false := by decide
theorem witness_ResetCycleOverrides :
    let s := (inByte false 5 0 0 scenario).withInputs [{ evt 0xFF with host := some 0x0D0000 }]
    paramsLegal s.params = true ∧ s.nextInput.evt.getLsbD 0 = true := by decide
theorem witness_ResetStateIsGood :
    ∀ b ∈ [2, 6898], paramsLegal { Config.suggested with bitTime := b, hgMin := 1023, hgSat := 1024 } = true := by decide
theorem witness_StepKeepsGoodStates :
    ∃ s t : State, s.Inv ∧ step s = .next t := ⟨(inByte false 2959 0 11 scenario).withInputs [evt 0x9E], _, inByte_good_withInputs _, rfl⟩
theorem witness_GoodStatesNeverStop : State.reset.Inv := reset_good
theorem witness_EveryOperationCompletes : (inByte false 2421 0 11 scenario).rxd.idx.toNat ≤ 11 := by decide

end Sys2Proof.Tests
end

section
/-! The refusal of illegal parameters (00_scope.md R10; log 7). -/

namespace Sys2Proof.Machine

variable {p : Params} {s : State}

/-- Legal parameters keep the four constraints of R10; the other conjuncts of `paramsLegal` are the widths of R8. -/
theorem r10_of_paramsLegal (h : paramsLegal p = true) :
    (2 ≤ p.bitTime ∧ p.bitTime ≤ 6898) ∧ (1 ≤ p.timeout ∧ p.timeout ≤ 65535) ∧ p.hgMin < p.hgSat ∧ 1 ≤ p.distScale := by
  simp only [paramsLegal, Bool.and_eq_true, decide_eq_true_eq] at h
  omega

/-- The refusing branch of `step`; `step_eq_next_iff` speaks of the other one. -/
theorem step_of_not_paramsLegal (h : ¬paramsLegal s.params = true) : step s = .refused .illegalParams :=
  if_neg h

/-- Settles O10: parameters that break a constraint of R10 are not legal, and `step` tests that before anything else. -/
theorem illegalParamsRefused : Obligations.IllegalParamsRefused := by
  intro s broken
  refine step_of_not_paramsLegal fun legal => ?_
  obtain ⟨hbit, htimeout, hgain, hscale⟩ := r10_of_paramsLegal legal
  rcases broken with h | h | h | h
  · exact h hbit
  · exact h htimeout
  · exact h hgain
  · exact h hscale

/-- States that break one constraint of R10 each, and no other. -/
theorem illegalParamsRefused_applies :
    ∀ p ∈ [{ Config.suggested with bitTime := 6899 }, { Config.suggested with timeout := 0 },
        { Config.suggested with hgMin := 900 }, { Config.suggested with distScale := 0 }],
      step (State.initial p) = .refused .illegalParams :=
  fun p hp => illegalParamsRefused (State.initial p) <| by
    revert p hp
    decide

end Sys2Proof.Machine
end

section
/-! The two ends of the good states: the state after reset is one (R53, R128, R141), and a stop bit past the buffer, which no
good state has, faults (R23; log 10). -/

namespace Sys2Proof.Machine

variable {s : State} {adc : Sample}

/-- A stop bit of a payload byte with `rx_idx` above 11 is covered by no rule of R121 to R125. -/
theorem stopKind_of_idx_gt {r : Rxd} (hl : r.lead = false) (hi : 11 < r.idx.toNat) : stopKind r = .stopOutOfRange := by
  unfold stopKind
  rw [if_neg (ne_true_of_eq_false hl), if_neg (by omega), if_neg (by omega)]

/-- Where the state selects no rule, both rows of a stop bit fault (log 10). -/
theorem exec_stop_of_outOfRange (hk : edgeKind s = .stopOutOfRange) :
    exec (.edgeStop adc) s = .fault .rxIdxOutOfRange ∧ exec (.edge adc) s = .fault .rxIdxOutOfRange := by
  have stop : execEdgeStop adc s = .fault .rxIdxOutOfRange := by simp only [execEdgeStop, hk]
  have edge : execEdge adc s = execEdgeStop adc s := by simp only [execEdge, hk]
  exact ⟨stop, edge.trans stop⟩

/-- Settles O19: at a stop bit the row is R120's choice, which is none here. -/
theorem stopBeyondBufferFaults : Obligations.StopBeyondBufferFaults :=
  fun _ _ hstop hlead hidx => exec_stop_of_outOfRange ((edgeKind_of_atStop hstop).trans (stopKind_of_idx_gt hlead hidx))

/-- A state at the stop bit of a payload byte with `rx_idx` at 12. -/
def pastBuffer : State :=
  { State.reset with
    rxd := { State.reset.rxd with await := false, lead := false, busy := true, run := true, cnt := 2421, idx := 12 } }

theorem stopBeyondBufferFaults_applies : exec (.edge 0) pastBuffer = .fault .rxIdxOutOfRange :=
  (stopBeyondBufferFaults pastBuffer 0 (by decide) rfl (by decide)).2

/-- The reset state is good under the parameters it holds. -/
theorem initial_inv {p : Params} (hp : paramsLegal p = true) : (State.initial p).Inv where
  params := hp
  rxd :=
    { busy := rfl
      run := rfl
      stopped := fun _ => rfl
      counting := nofun
      bounded := nofun
      idx := Nat.zero_le _
      gain := rfl }
  txb := { count := Nat.zero_le _, waiting := fun _ => rfl }
  st := { dispatch := nofun, success := nofun, apart := nofun }
  cyc := rfl

/-- Settles O57: the suggested parameters are legal. -/
theorem resetStateIsGood : Obligations.ResetStateIsGood :=
  ⟨initial_inv (by decide), fun _ hp => initial_inv hp⟩

/-- The extremes of `P_BIT` and of the gain thresholds. -/
theorem resetStateIsGood_applies :
    ∀ b ∈ [2, 6898], (State.initial { Config.suggested with bitTime := b, hgMin := 1023, hgSat := 1024 }).Inv :=
  fun b hb => resetStateIsGood.2 _ <| by
    revert b hb
    decide

end Sys2Proof.Machine
end

section
/-! What the host reads (10_state.md R33 to R51, R210): the register map of `memRead`, one lemma for each of its regions, and
the fields packed into STATUS, IRQEN and RX_CTL. -/

namespace Sys2Proof.Machine

section fields

/-- Two bit fields side by side weigh as their positions say. -/
theorem toNat_append_eq_add {m n : Nat} (x : BitVec m) (y : BitVec n) :
    (x ++ y).toNat = x.toNat * 2 ^ n + y.toNat := by
  rw [BitVec.toNat_append, ← Nat.shiftLeft_add_eq_or_of_lt y.isLt, Nat.shiftLeft_eq]

/-- STATUS (R33), with the code of `tx_state` in bits 6:5. -/
theorem statusWord_toNat (s : State) :
    (statusWord s).toNat =
      s.rxd.busy.toNat + 2 * s.st.flags.rxv.toNat + 4 * s.st.flags.txs.toNat + 8 * s.st.flags.derr.toNat
        + 16 * s.st.flags.cerr.toNat + 32 * (txStateCode s.txb.state).toNat + 128 * s.rxd.gainSel.toNat := by
  simp only [statusWord, toNat_append_eq_add, BitVec.toNat_ofBool, BitVec.toNat_ofNat]
  omega

/-- IRQEN (R34). -/
theorem irqenWord_toNat (s : State) : (irqenWord s).toNat = 2 * s.st.irqen.toNat := by
  simp only [irqenWord, toNat_append_eq_add, BitVec.toNat_ofNat]
  omega

/-- RX_CTL (R44). -/
theorem rxCtlWord_toNat (s : State) :
    (rxCtlWord s).toNat =
      s.rxd.await.toNat + 2 * s.rxd.lead.toNat + 4 * s.rxd.busy.toNat + 8 * s.rxd.run.toNat + 16 * s.rxd.idx.toNat
        + 256 * s.rxd.gainSel.toNat := by
  simp only [rxCtlWord, toNat_append_eq_add, BitVec.toNat_ofBool, BitVec.toNat_ofNat]
  omega

end fields

section regions

variable {s : State} {a : Addr} {i : Nat}

/-- A buffer's element by its index (`frameByte` reads 0 only outside the buffer). -/
theorem frameByte_eq_getElem (f : Frame) (hi : i < 12) : frameByte f i = f[i] := by
  simp [frameByte, hi]

/-- A table's entry by its index. -/
theorem calEntry_eq_getElem (t : CalTable) (hi : i < 14) : calEntry t i = t[i] := by
  simp [calEntry, hi]

/-- RX_BUF (R49). -/
theorem memRead_rxBuf (ha : a.toNat = 0x20 + i) (hi : i < 12) : memRead s a = (s.rxd.buf[i]).setWidth 16 := by
  simp only [memRead, ha]
  rw [if_neg (by omega), if_pos (by omega), Nat.add_sub_cancel_left, frameByte_eq_getElem _ hi]

/-- RXO_FRAME (R50). -/
theorem memRead_rxoFrame (ha : a.toNat = 0x30 + i) (hi : i < 12) : memRead s a = (s.rxo.frame[i]).setWidth 16 := by
  simp only [memRead, ha]
  rw [if_neg (by omega), if_neg (by omega), if_pos (by omega), Nat.add_sub_cancel_left, frameByte_eq_getElem _ hi]

/-- CAL_HIGH (R51). -/
theorem memRead_calHigh (ha : a.toNat = 0x40 + i) (hi : i < 14) : memRead s a = s.dist.calHigh[i] := by
  simp only [memRead, ha]
  rw [if_neg (by omega), if_neg (by omega), if_neg (by omega), if_pos (by omega), Nat.add_sub_cancel_left,
    calEntry_eq_getElem _ hi]

/-- CAL_LOW (R51). -/
theorem memRead_calLow (ha : a.toNat = 0x50 + i) (hi : i < 14) : memRead s a = s.dist.calLow[i] := by
  simp only [memRead, ha]
  rw [if_neg (by omega), if_neg (by omega), if_neg (by omega), if_neg (by omega), if_pos (by omega),
    Nat.add_sub_cancel_left, calEntry_eq_getElem _ hi]

/-- A register narrower than the data port reads as its element's number (R32). -/
theorem toNat_of_eq_setWidth {w : Nat} {x : BitVec w} (h : memRead s a = x.setWidth 16) (hw : w ≤ 16 := by decide) :
    (memRead s a).toNat = x.toNat := by
  rw [h, BitVec.toNat_setWidth_of_le hw]

end regions

/-- Settles O47: below 0x14 `MemRead` is the register by evaluation, and its packed fields are summed by the lemmas on
`statusWord`, `irqenWord` and `rxCtlWord`; the four arrays go element by element. -/
theorem registerFields : Obligations.RegisterFields := by
  intro s
  have address {base n i : Nat} (hi : i < n) (hn : base + n ≤ 128) : (BitVec.ofNat 7 (base + i)).toNat = base + i :=
    Nat.mod_eq_of_lt (by omega)
  refine ⟨?status, irqenWord_toNat s, rfl, toNat_of_eq_setWidth rfl, toNat_of_eq_setWidth rfl, toNat_of_eq_setWidth rfl,
    rfl, rfl, toNat_of_eq_setWidth rfl, toNat_of_eq_setWidth rfl, rxCtlWord_toNat s, rfl, toNat_of_eq_setWidth rfl,
    toNat_of_eq_setWidth rfl, toNat_of_eq_setWidth rfl, toNat_of_eq_setWidth rfl, toNat_of_eq_setWidth rfl,
    ?rxBuf, ?rxoFrame, ?calHigh, ?calLow⟩
  case status =>
    rw [show memRead s 0x00 = statusWord s from rfl, statusWord_toNat]
    cases s.txb.state <;> rfl
  case rxBuf => exact fun i => toNat_of_eq_setWidth (memRead_rxBuf (address i.isLt (by decide)) i.isLt)
  case rxoFrame => exact fun i => toNat_of_eq_setWidth (memRead_rxoFrame (address i.isLt (by decide)) i.isLt)
  case calHigh => exact fun i => memRead_calHigh (address i.isLt (by decide)) i.isLt
  case calLow => exact fun i => memRead_calLow (address i.isLt (by decide)) i.isLt

end Sys2Proof.Machine
end

section
/-! The output ports (10_state.md R31): the bytes of `rxo_frame_o`, and `irq` as an enabled flag (R234). -/

namespace Sys2Proof.Machine

/-- Bytes packed with the first in the lowest place, as `rxo_frame_o` packs them: byte `i` stands in bits 8i+7..8i while those
lie inside the port's 96 bits. -/
theorem extractLsb'_packed (l : List Byte) {i : Nat} (hi : i < l.length) (hw : i < 12) :
    (l.foldr (fun (b : Byte) (acc : BitVec 96) => acc <<< 8 ||| b.setWidth 96) 0).extractLsb' (8 * i) 8 = l[i] := by
  induction l generalizing i with
  | nil => cases hi
  | cons b l ih =>
    cases i with
    | zero =>
      apply BitVec.eq_of_getLsbD_eq
      intro k hk
      simp [hk, show k < 96 by omega]
    | succ i =>
      have rest := ih (Nat.lt_of_succ_lt_succ hi) (by omega)
      rw [List.getElem_cons_succ, ← rest, List.foldr_cons]
      apply BitVec.eq_of_getLsbD_eq
      intro k hk
      have above : b.getLsbD (8 * (i + 1) + k) = false := BitVec.getLsbD_of_ge _ _ (by omega)
      simp only [BitVec.getLsbD_extractLsb', BitVec.getLsbD_or, BitVec.getLsbD_shiftLeft, BitVec.getLsbD_setWidth, above]
      simp [show 8 * (i + 1) + k < 96 by omega, show ¬8 * (i + 1) + k < 8 by omega,
        show 8 * (i + 1) + k - 8 = 8 * i + k by omega]

/-- `irq` is 1 exactly if some flag that is set is enabled (R234): bit `k` of `irqen` belongs to the cause with code
`k + 1`. -/
theorem irqLevel_iff (st : Status) :
    irqLevel st = true ↔ ∃ c : Cause, getFlag st.flags c = true ∧ st.irqen.getLsbD (causeCode c - 1) = true := by
  simp only [irqLevel, Bool.or_eq_true, Bool.and_eq_true]
  constructor
  · rintro (((h | h) | h) | h)
    exacts [⟨.frameDispatched, h⟩, ⟨.transmitSuccess, h⟩, ⟨.estimatorError, h⟩, ⟨.commandError, h⟩]
  · rintro ⟨c, h⟩
    cases c with
    | frameDispatched => exact .inl (.inl (.inl h))
    | transmitSuccess => exact .inl (.inl (.inr h))
    | estimatorError => exact .inl (.inr h)
    | commandError => exact .inr h

/-- Settles O49: every port is a field of `S` but for the packed frame, the two levels of `tx_state` and `irq`. -/
theorem outputPorts : Obligations.OutputPorts := fun s =>
  ⟨rfl, rfl, rfl, fun i => extractLsb'_packed s.rxo.frame.toList (by simp) i.isLt, rfl, rfl, beq_iff_eq, beq_iff_eq, rfl,
    irqLevel_iff s.st⟩

end Sys2Proof.Machine
end

section
/-! Which unit writes which state (10_state.md R22; 40_rx_decoder.md R130; 42_crc.md R167): what an RXD operation can do, and
who writes `crc_acc` and RXO. -/

namespace Sys2Proof.Machine

variable {i : Instr} {s t : State} {adc : Sample}

/-- EDGE_STOP is EDGE where the state selects a stop bit. -/
theorem exec_edge_of_isStop (h : (edgeKind s).isStop = true) : exec (.edge adc) s = exec (.edgeStop adc) s := by
  show execEdge adc s = execEdgeStop adc s
  unfold execEdge
  cases hk : edgeKind s <;> first | rfl | simp [hk, EdgeKind.isStop] at h

/-- EDGE_STOP does nothing where no stop bit is due. -/
theorem exec_edgeStop_of_not_isStop (h : (edgeKind s).isStop = false) : exec (.edgeStop adc) s = .next s := by
  show execEdgeStop adc s = .next s
  unfold execEdgeStop
  cases hk : edgeKind s <;> first | rfl | simp [hk, EdgeKind.isStop] at h

/-- The row of the table for each kind of edge; a stop bit no rule covers is EDGE_STOP's, which faults on it
(`exec_edge_eq_edgeRow` ties the rows to EDGE). -/
def edgeRow (adc : Sample) : EdgeKind → Instr
  | .drop => .edgeDrop
  | .start => .edgeStart adc
  | .stray => .edgeStray
  | .data => .edgeData
  | .stopLeadOk => .edgeStopLeadOk adc
  | .stopCollision => .edgeStopCollision adc
  | .stopByte => .edgeStopByte
  | .stopDispatch => .edgeStopDispatch
  | .stopCrcDrop => .edgeStopCrcDrop
  | .stopOutOfRange => .edgeStop adc

/-- EDGE runs the row the state selects (R114). -/
theorem exec_edge_eq_edgeRow (adc : Sample) (s : State) : exec (.edge adc) s = exec (edgeRow adc (edgeKind s)) s := by
  show execEdge adc s = _
  unfold execEdge
  cases hk : edgeKind s <;> first | rfl | (simp only [execEdgeStop, hk]; rfl)

/-- A row the state does not select changes nothing (log 11). -/
theorem exec_edgeRow_of_ne {k : EdgeKind} (hk : edgeKind s ≠ k) (hs : k ≠ .stopOutOfRange) :
    exec (edgeRow adc k) s = .next s := by
  cases k with
  | drop => rfl
  | stopOutOfRange => exact absurd rfl hs
  | _ => exact congrArg Host.Outcome.next (if_neg hk)

/-- A row of an edge does what EDGE does, or nothing. -/
theorem exec_edgeRow_cases {k : EdgeKind} (hs : k ≠ .stopOutOfRange) (h : exec (edgeRow adc k) s = .next t) :
    t = s ∨ exec (.edge adc) s = .next t := by
  by_cases hk : edgeKind s = k
  · exact .inr (by rw [exec_edge_eq_edgeRow, hk, h])
  · rw [exec_edgeRow_of_ne hk hs] at h
    cases h
    exact .inl rfl

/-- EDGE_STOP does what EDGE does where a stop bit is due, and nothing elsewhere (R120). -/
theorem exec_edgeStop_cases (h : exec (.edgeStop adc) s = .next t) : t = s ∨ exec (.edge adc) s = .next t := by
  cases hk : (edgeKind s).isStop with
  | true => exact .inr (exec_edge_of_isStop hk ▸ h)
  | false =>
    rw [exec_edgeStop_of_not_isStop hk] at h
    cases h
    exact .inl rfl

/-- What an RXD operation can do: nothing, the receiver reset of RX_TIMEOUT, or what an edge does, which `execEdge_cases`
lists. -/
theorem execRx_cases (hi : isRxOp i = true) (h : exec i s = .next t) :
    t = s ∨ t = s.rxReset ∨ ∃ adc, exec (.edge adc) s = .next t := by
  have row {adc : Sample} {k : EdgeKind} (hs : k ≠ .stopOutOfRange) (h : exec (edgeRow adc k) s = .next t) :
      t = s ∨ t = s.rxReset ∨ ∃ adc, exec (.edge adc) s = .next t :=
    (exec_edgeRow_cases hs h).imp_right fun he => .inr ⟨adc, he⟩
  cases i with
  | edge adc => exact .inr (.inr ⟨adc, h⟩)
  | edgeDrop => exact row (adc := 0) (k := .drop) (by decide) h
  | edgeStart adc => exact row (k := .start) (by decide) h
  | edgeStray => exact row (adc := 0) (k := .stray) (by decide) h
  | edgeData => exact row (adc := 0) (k := .data) (by decide) h
  | edgeStop adc => exact (exec_edgeStop_cases h).imp_right fun he => .inr ⟨adc, he⟩
  | edgeStopLeadOk adc => exact row (k := .stopLeadOk) (by decide) h
  | edgeStopCollision adc => exact row (k := .stopCollision) (by decide) h
  | edgeStopByte => exact row (adc := 0) (k := .stopByte) (by decide) h
  | edgeStopDispatch => exact row (adc := 0) (k := .stopDispatch) (by decide) h
  | edgeStopCrcDrop => exact row (adc := 0) (k := .stopCrcDrop) (by decide) h
  | rxTimeout =>
    cases h
    split
    · exact .inr (.inl rfl)
    · exact .inl rfl
  | _ => cases hi

/-- What an RXD operation in `s` leaves alone (R22, R130): the other units, the configuration and `h_rdata`; and RXO, but where a
frame is dispatched (R25, R124). -/
structure RxdFrame (s t : State) : Prop where
  crcAcc : t.crcAcc = s.crcAcc
  dist : t.dist = s.dist
  txb : t.txb = s.txb
  irqen : t.st.irqen = s.st.irqen
  hRdata : t.hRdata = s.hRdata
  params : t.params = s.params
  rxo : t.rxo ≠ s.rxo → edgeKind s = .stopDispatch

/-- The nine rows of an edge each keep RXD's frame; only the dispatch writes RXO. -/
theorem execEdge_frame (h : exec (.edge adc) s = .next t) : RxdFrame s t := by
  rcases execEdge_cases h with ⟨hk, rfl⟩ | ⟨hk, rfl⟩ | ⟨hk, rfl⟩ | ⟨hk, rfl⟩ | ⟨hk, rfl⟩ | ⟨hk, rfl⟩ | ⟨hk, rfl⟩ | ⟨hk, rfl⟩
    | ⟨hk, rfl⟩
  all_goals
    refine ⟨rfl, rfl, rfl, rfl, rfl, rfl, fun hne => ?_⟩
    first | exact absurd rfl hne | exact hk

/-- Every RXD operation keeps RXD's frame. -/
theorem execRx_frame (hi : isRxOp i = true) (h : exec i s = .next t) : RxdFrame s t := by
  rcases execRx_cases hi h with rfl | rfl | ⟨_, he⟩
  · exact ⟨rfl, rfl, rfl, rfl, rfl, rfl, fun hne => absurd rfl hne⟩
  · exact ⟨rfl, rfl, rfl, rfl, rfl, rfl, fun hne => absurd rfl hne⟩
  · exact execEdge_frame he

/-- Of the host's operations the two CRC commands write `crc_acc` (R165 to R167). -/
theorem execHost_crcAcc (hi : isHostOp i = true) (h : exec i s = .next t) (hne : t.crcAcc ≠ s.crcAcc) :
    i = .crcInit ∨ ∃ d, i = .wrCrcData d := by
  cases i with
  | crcInit => exact .inl rfl
  | wrCrcData d => exact .inr ⟨d, rfl⟩
  | distEst | distEstRx => cases h; exact absurd (State.putEstimate_crcAcc ..) hne
  | _ => first | (cases hi; done) | (cases h; exact absurd rfl hne)

/-- Every operation but RESET is the host's, TXB's or RXD's (R80). -/
theorem instr_unit (i : Instr) : i = .reset ∨ isHostOp i = true ∨ isTxOp i = true ∨ isRxOp i = true := by
  cases i <;> simp [isHostOp, isTxOp, isRxOp, hostRowOf]

/-- No operation writes the parameters (R8). -/
theorem exec_params (h : exec i s = .next t) : t.params = s.params := by
  rcases instr_unit i with rfl | hi | hi | hi
  · cases h; rfl
  · obtain ⟨_, _, _, _, _, hp⟩ := execHost_frame hi h
    exact hp
  · obtain ⟨_, _, _, _, _, _, _, _, hp⟩ := execTx_frame hi h
    exact hp
  · exact (execRx_frame hi h).params

/-- Who writes `crc_acc`: RESET and the two CRC commands (R167). -/
theorem exec_crcAcc_writers (h : exec i s = .next t) (hne : t.crcAcc ≠ s.crcAcc) :
    i = .reset ∨ i = .crcInit ∨ ∃ d, i = .wrCrcData d := by
  rcases instr_unit i with rfl | hi | hi | hi
  · exact .inl rfl
  · exact .inr (execHost_crcAcc hi h hne)
  · obtain ⟨_, _, hc, _⟩ := execTx_frame hi h
    exact absurd hc hne
  · exact absurd (execRx_frame hi h).crcAcc hne

/-- Who writes RXO: RESET, and RXD where an edge dispatches a frame (R25, R124). -/
theorem exec_rxo_writers (h : exec i s = .next t) (hne : t.rxo ≠ s.rxo) :
    i = .reset ∨ (isRxOp i = true ∧ edgeKind s = .stopDispatch) := by
  rcases instr_unit i with rfl | hi | hi | hi
  · exact .inl rfl
  · obtain ⟨_, ho, _⟩ := execHost_frame hi h
    exact absurd ho hne
  · obtain ⟨_, ho, _⟩ := execTx_frame hi h
    exact absurd ho hne
  · exact .inr ⟨hi, (execRx_frame hi h).rxo hne⟩

/-- Settles O52: the frame of each unit, and the writers of `crc_acc`, RXO and the parameters over all units. -/
theorem unitsWriteDisjointState : Obligations.UnitsWriteDisjointState := by
  intro i s t h
  refine ⟨fun hi => ?host, fun hi => ?tx, fun hi => ?rx, exec_crcAcc_writers h, exec_rxo_writers h, exec_params h⟩
  case host =>
    obtain ⟨hr, ho, hx, hd, hs, _⟩ := execHost_frame hi h
    exact ⟨hr, ho, hx, hd, hs⟩
  case tx =>
    obtain ⟨hr, ho, hc, hd, hp, hen, _, hh, _⟩ := execTx_frame hi h
    exact ⟨hr, ho, hc, hd, hp, hen, hh⟩
  case rx =>
    have frame := execRx_frame hi h
    exact ⟨frame.crcAcc, frame.dist, frame.txb, frame.irqen, frame.hRdata⟩

/-- A state at the last stop bit of the scenario frame of 95_test_vectors.md, whose CRC is good. -/
def lastStopDue : State :=
  { State.reset with
    rxd :=
      { State.reset.rxd with
        await := false, lead := false, busy := true, run := true, cnt := 2421, byte := 0xB0, idx := 11,
        buf := #v[1, 0, 0, 0, 0, 0, 0, 0, 0, 0, 0xA0, 0] } }

/-- A dispatch writes RXO and leaves CRC and TXB alone. -/
theorem unitsWriteDisjointState_applies :
    ∃ t, exec (.edge 0) lastStopDue = .next t ∧ t.rxo ≠ lastStopDue.rxo ∧ t.crcAcc = lastStopDue.crcAcc
      ∧ t.txb = lastStopDue.txb := by
  have goes : exec (.edge 0) lastStopDue = .next _ := rfl
  obtain ⟨_, _, rx, _⟩ := unitsWriteDisjointState _ _ _ goes
  obtain ⟨hc, _, hx, _⟩ := rx rfl
  exact ⟨_, goes, by decide, hc, hx⟩

end Sys2Proof.Machine
end

section
/-! The phases of a cycle that goes on (R266), and two facts about it: `h_rdata` shows the start of the cycle (R61), and
no request comes from a cycle that starts busy or with the period at 0xFFFF (R71, R143, R151). -/

namespace Sys2Proof.Machine

variable {c : CycleInput} {i : Instr} {s s0 t : State}

/-- R266 steps 2 and 3 run RXD's operations. -/
theorem isRxOp_of_mem_rxPhase (h : i ∈ timeoutOps s0 ++ edgeOps c) : isRxOp i = true := by
  rcases List.mem_append.1 h with ht | he
  · unfold timeoutOps at ht
    split at ht
    · cases List.mem_singleton.1 ht
      rfl
    · cases ht
  · have edge := (List.mem_filter.1 he).2
    cases i with
    | edge => rfl
    | _ => cases edge

/-- R266 step 5 runs TXB's operations, the level of `run_eligible` among them (log 16). -/
theorem isTxOp_of_mem_txPhase (h : i ∈ levelOps c ++ txOps c s0) : isTxOp i = true := by
  rcases List.mem_append.1 h with hl | hx
  · have level := (List.mem_filter.1 hl).2
    cases i with
    | runEligible => rfl
    | _ => cases level
  · exact isTxOp_of_mem_txOps hx

/-- R266 step 6 runs no host read. -/
theorem isHostRead_of_mem_writeOps (h : i ∈ writeOps c) : isHostRead i = false := by
  unfold writeOps at h
  split at h
  · cases h
  · rename_i hr
    cases List.mem_singleton.1 h
    exact Bool.eq_false_of_not_eq_true hr

/-- The work of a cycle that goes on, after its host read: RESET alone (R261), or the phases of R266, RXD's to `u`, the counter,
TXB's to `v`, and the host write. -/
theorem runCycle_cases (h : runCycle c s.beginCycle = .next t) :
    exec .reset (s.beginCycle.readOut (hostReadValue s c)) = .next t
    ∨ ∃ u v,
        runOps (timeoutOps s.beginCycle ++ edgeOps c) (s.beginCycle.readOut (hostReadValue s c)) = .next u
        ∧ runOps (levelOps c ++ txOps c s.beginCycle) u.countRx = .next v
        ∧ runOps (writeOps c) v = .next t := by
  unfold runCycle at h
  rw [runOps_readOps, andThen_next] at h
  split at h
  case isTrue hr =>
    rw [events_eq_reset hr] at h
    exact .inl h
  case isFalse =>
    obtain ⟨w, hrx, hth⟩ := (andThen_eq_next_iff ..).1 h
    obtain ⟨u, hu, hw⟩ := (andThen_eq_next_iff ..).1 hrx
    cases hw
    rw [txHostPhase, runOps_append] at hth
    obtain ⟨v, hv, ht⟩ := (andThen_eq_next_iff ..).1 hth
    exact .inr ⟨u, v, hu, hv, ht⟩

/-- Of the host's operations the reads alone set `h_rdata` (R61). -/
theorem execHost_hRdata (hi : isHostOp i = true) (hr : isHostRead i = false) (h : exec i s = .next t) :
    t.hRdata = s.hRdata := by
  cases i with
  | rd | rdWo | rdRsv | hbusIdle => cases hr
  | distEst | distEstRx => cases h; exact State.putEstimate_hRdata ..
  | _ => first | (cases hi; done) | (cases h; rfl)

/-- Settles O48: the read of step 1 sets the port from the start of the cycle, and no later operation, RESET included, writes it. -/
theorem hostReadSeesCycleStart : Obligations.HostReadSeesCycleStart := by
  intro s t h
  obtain ⟨_, w, hw, rfl⟩ := step_eq_next_iff.1 h
  show w.hRdata = _
  rcases runCycle_cases hw with hreset | ⟨u, v, hu, hv, ht⟩
  · cases hreset
    rfl
  · calc w.hRdata
        = v.hRdata := runOps_keeps (P := (·.hRdata = v.hRdata))
            (fun _ hi _ _ keep he =>
              (execHost_hRdata (isHostOp_of_mem_writeOps hi) (isHostRead_of_mem_writeOps hi) he).trans keep) rfl ht
      _ = u.countRx.hRdata := runOps_keeps (P := (·.hRdata = u.countRx.hRdata))
            (fun _ hi _ _ keep he =>
              have ⟨_, _, _, _, _, _, _, hh, _⟩ := execTx_frame (isTxOp_of_mem_txPhase hi) he
              hh.trans keep) rfl hv
      _ = u.hRdata := u.countRx_hRdata
      _ = hostReadValue s s.nextInput := runOps_keeps (P := (·.hRdata = hostReadValue s s.nextInput))
            (fun _ hi _ _ keep he => (execRx_frame (isRxOp_of_mem_rxPhase hi) he).hRdata.trans keep) rfl hu

/-- A reset cycle in which the host reads TX_PERIOD. -/
def readInResetCycle : State :=
  { State.reset with
    env := { State.reset.env with schedule := [{ CycleInput.idle with evt := 0x01, host := some 0x080000 }] } }

/-- A read in a reset cycle sees the period 0x0F42 of the start of the cycle. -/
theorem hostReadSeesCycleStart_applies : ∃ t, step readInResetCycle = .next t ∧ t.hRdata = 0x0F42 := by
  have goes : step readInResetCycle = .next _ := rfl
  exact ⟨_, goes, (hostReadSeesCycleStart _ _ goes).trans (by decide)⟩

/-- No operation of a cycle changes what the cycle remembers of `S.rx_busy` (R71). -/
theorem exec_cyc_rxBusy (h : exec i s = .next t) : t.cyc.rxBusy = s.cyc.rxBusy := by
  rcases instr_unit i with rfl | hi | hi | hi
  case inl => cases h; rfl
  case inr.inl =>
    cases i with
    | distEst | distEstRx => cases h; unfold State.putEstimate; split <;> rfl
    | _ => first | (cases hi; done) | (cases h; rfl)
  case inr.inr.inl =>
    cases i with
    | tick =>
      have h' : execTick s = .next t := h
      unfold execTick execTxCompare at h'
      repeat' split at h'
      all_goals cases h'; rfl
    | _ => first | (cases hi; done) | (cases h; split <;> rfl) | (cases h; rfl)
  case inr.inr.inr =>
    rcases execRx_cases hi h with rfl | rfl | ⟨_, he⟩
    · rfl
    · rfl
    · rcases execEdge_cases he with ⟨_, rfl⟩ | ⟨_, rfl⟩ | ⟨_, rfl⟩ | ⟨_, rfl⟩ | ⟨_, rfl⟩ | ⟨_, rfl⟩ | ⟨_, rfl⟩ | ⟨_, rfl⟩
        | ⟨_, rfl⟩
      all_goals rfl

/-- A compare event leaves IDLE only with a request due (R143, R144). -/
theorem compare_idle (hs : s.txb.state = .idle) (hr : requestDue s = false) : s.compare.txb.state = .idle := by
  simp [hr, hs]

/-- From IDLE a TXB operation goes nowhere while no request is due (R141 to R149). -/
theorem execTx_idle (hi : isTxOp i = true) (h : exec i s = .next t) (hs : s.txb.state = .idle)
    (hr : requestDue s = false) : t.txb.state = .idle := by
  have txCompare_idle {u} (hu : execTxCompare s = .next u) : u.txb.state = .idle := by
    cases hu
    split
    · exact compare_idle hs hr
    · exact hs
  cases i with
  | tick =>
    have h' : execTick s = .next t := h
    unfold execTick at h'
    rw [if_pos hs] at h'
    split at h'
    · exact txCompare_idle h'
    · cases h'; exact hs
  | txCompare => exact txCompare_idle h
  | runEligible => cases h; exact hs
  | rspFrame | rspNone | doneOk | doneFail =>
    cases h
    rw [if_neg (by rw [hs]; decide)]
    exact hs
  | _ => cases hi

/-- TXB is in IDLE and cannot ask for a frame in this cycle: the cycle started with the receiver busy (R71), or the period is the
largest (R151). -/
structure Quiet (s : State) : Prop where
  idle : s.txb.state = .idle
  blocked : s.cyc.rxBusy = true ∨ s.txb.period = 0xFFFF

/-- The decision of R143 is no request in a quiet state: no 16-bit sum exceeds 0xFFFF. -/
theorem Quiet.requestDue (q : Quiet s) : requestDue s = false := by
  refine Bool.eq_false_of_not_eq_true fun due => ?_
  obtain ⟨notBusy, exceeds, _⟩ := requestDue_iff.1 due
  rcases q.blocked with busy | largest
  · rw [busy] at notBusy
    cases notBusy
  · have bound := (accNew s).isLt
    rw [largest] at exceeds
    exact absurd exceeds (Nat.not_lt.2 (Nat.le_of_lt_succ bound))

/-- What keeps TXB's registers keeps a quiet state, within a cycle. -/
theorem Quiet.of_txb_eq (q : Quiet s) (hx : t.txb = s.txb) (hc : t.cyc.rxBusy = s.cyc.rxBusy) : Quiet t :=
  ⟨hx ▸ q.idle, hc ▸ hx ▸ q.blocked⟩

/-- RXD's operations write nothing of TXB (R130). -/
theorem Quiet.execRx (q : Quiet s) (hi : isRxOp i = true) (h : exec i s = .next t) : Quiet t :=
  q.of_txb_eq (execRx_frame hi h).txb (exec_cyc_rxBusy h)

/-- TXB's operations keep a quiet state quiet. -/
theorem Quiet.execTx (q : Quiet s) (hi : isTxOp i = true) (h : exec i s = .next t) : Quiet t := by
  obtain ⟨_, _, _, _, hp, _⟩ := execTx_frame hi h
  exact ⟨execTx_idle hi h q.idle q.requestDue, exec_cyc_rxBusy h ▸ hp ▸ q.blocked⟩

/-- No host operation writes `tx_state` (R130). -/
theorem execHost_txState (hi : isHostOp i = true) (h : exec i s = .next t) : t.txb.state = s.txb.state := by
  obtain ⟨_, _, hx, _⟩ := execHost_frame hi h
  rw [hx]

/-- Settles O40: the state stays quiet through RXD's and TXB's operations; the host write after them can lower the period, too late
for the decision, and leaves `tx_state`. -/
theorem noRequestWhileBusy : Obligations.NoRequestWhileBusy := by
  intro s t h idle blocked
  obtain ⟨_, w, hw, rfl⟩ := step_eq_next_iff.1 h
  show w.txb.state = .idle
  rcases runCycle_cases hw with hreset | ⟨u, v, hu, hv, ht⟩
  · cases hreset
    rfl
  · have start : Quiet (s.beginCycle.readOut (hostReadValue s s.nextInput)) := ⟨idle, blocked⟩
    have received : Quiet u := runOps_keeps (fun _ hi _ _ q he => q.execRx (isRxOp_of_mem_rxPhase hi) he) start hu
    have counted : Quiet u.countRx := received.of_txb_eq u.countRx_txb (congrArg (·.rxBusy) u.countRx_cyc)
    have decided : Quiet v := runOps_keeps (fun _ hi _ _ q he => q.execTx (isTxOp_of_mem_txPhase hi) he) counted hv
    exact runOps_keeps (P := (·.txb.state = .idle))
      (fun _ hi _ _ keep he => (execHost_txState (isHostOp_of_mem_writeOps hi) he).trans keep) decided.idle ht

/-- A cycle with a tick and `run_eligible` in which a compare is due with the accumulated wait at 0xFFFE; the receiver is inside a
leading byte where `busy`. -/
def compareCycle (busy : Bool) (period : Word) : State :=
  { State.reset with
    rxd :=
      { State.reset.rxd with await := !busy, busy := busy, run := busy, gainSel := busy, cnt := if busy then 5 else 0 }
    txb := { State.reset.txb with cnt := 255, inc := 255, acc := 0xFEFF, period := period }
    env := { State.reset.env with schedule := [{ CycleInput.idle with evt := 0x84 }] } }

/-- The same cycle asks for a frame with an idle receiver and the period at 0xFFFD, and asks for none with the receiver busy or
the period at 0xFFFF. -/
theorem noRequestWhileBusy_applies :
    (∃ t, step (compareCycle false 0xFFFD) = .next t ∧ t.txb.state = .waitFrame)
    ∧ (∃ t, step (compareCycle true 0xFFFD) = .next t ∧ t.txb.state = .idle)
    ∧ ∃ t, step (compareCycle false 0xFFFF) = .next t ∧ t.txb.state = .idle :=
  have busy : step (compareCycle true 0xFFFD) = .next _ := rfl
  have largest : step (compareCycle false 0xFFFF) = .next _ := rfl
  ⟨⟨_, rfl, by decide⟩, ⟨_, busy, noRequestWhileBusy _ _ busy rfl (.inl rfl)⟩,
    ⟨_, largest, noRequestWhileBusy _ _ largest rfl (.inr rfl)⟩⟩

end Sys2Proof.Machine
end

section
/-! The address map of the decoder (30_encoding.md R81 to R84; 10_state.md R52): the rows' address sets cover every address, and
the row that a write or a read of each address is. -/

namespace Sys2Proof

variable {a : Addr} {d : Word}

/-- Every address is a writable register, a calibration entry, read-only or reserved (R211, R219 to R222). -/
theorem writeAddr_cases :
    ∀ a : Addr, a = 0x00 ∨ a = 0x01 ∨ a = 0x02 ∨ a = 0x03 ∨ a = 0x05 ∨ a = 0x06 ∨ a = 0x08
      ∨ (∃ i : Fin 14, a = BitVec.ofNat 7 (0x40 + i.val)) ∨ (∃ i : Fin 14, a = BitVec.ofNat 7 (0x50 + i.val))
      ∨ roAddrs.contains a.toNat = true ∨ rsvAddrs.contains a.toNat = true := by
  decide

/-- Every address is write-only, reserved or readable (R210, R223). -/
theorem readAddr_cases :
    ∀ a : Addr, woAddrs.contains a.toNat = true ∨ rsvAddrs.contains a.toNat = true
      ∨ readableAddrs.contains a.toNat = true := by
  decide

/-- The addresses of the seven registers a write has operands for (R211). -/
def writeRegs : List Addr := [0x00, 0x01, 0x02, 0x03, 0x05, 0x06, 0x08]

/-- A write that is of none of the seven registers goes by its address's range. -/
theorem decodeWrite_of_not_reg (h : a ∉ writeRegs) :
    decodeWrite a d =
      if h : 0x40 ≤ a.toNat ∧ a.toNat ≤ 0x4D then .wrCalHigh ⟨a.toNat - 0x40, by omega⟩ d
      else if h : 0x50 ≤ a.toNat ∧ a.toNat ≤ 0x5D then .wrCalLow ⟨a.toNat - 0x50, by omega⟩ d
      else if isReserved a.toNat then .wrRsv a
      else .wrRo a := by
  simp only [writeRegs, List.mem_cons, List.not_mem_nil, or_false, not_or] at h
  obtain ⟨h0, h1, h2, h3, h5, h6, h8⟩ := h
  simp only [decodeWrite, if_neg h0, if_neg h1, if_neg h2, if_neg h3, if_neg h5, if_neg h6, if_neg h8]

/-- The number of the address of a calibration entry (R82). -/
theorem toNat_entryAddr {base : Nat} (i : Fin 14) (hb : base + 14 ≤ 128 := by decide) :
    (BitVec.ofNat 7 (base + i.val)).toNat = base + i.val :=
  Nat.mod_eq_of_lt (by omega)

/-- A write of an entry of CAL_HIGH (R219). -/
theorem decodeWrite_calHigh (i : Fin 14) : decodeWrite (BitVec.ofNat 7 (0x40 + i.val)) d = .wrCalHigh i d := by
  have hi := toNat_entryAddr (base := 0x40) i
  rw [decodeWrite_of_not_reg (by revert i; decide), dif_pos (by omega)]
  simp only [hi, Nat.add_sub_cancel_left]

/-- A write of an entry of CAL_LOW (R220). -/
theorem decodeWrite_calLow (i : Fin 14) : decodeWrite (BitVec.ofNat 7 (0x50 + i.val)) d = .wrCalLow i d := by
  have hi := toNat_entryAddr (base := 0x50) i
  rw [decodeWrite_of_not_reg (by revert i; decide), dif_neg (by omega), dif_pos (by omega)]
  simp only [hi, Nat.add_sub_cancel_left]

/-- The decoder's reserved addresses are R52's. -/
theorem isReserved_eq : ∀ a : Addr, isReserved a.toNat = rsvAddrs.contains a.toNat := by
  decide

/-- A write of a read-only or a reserved address has no operand (R221, R222). -/
theorem decodeWrite_of_no_operand (h : roAddrs.contains a.toNat = true ∨ rsvAddrs.contains a.toNat = true) :
    decodeWrite a d = if rsvAddrs.contains a.toNat then .wrRsv a else .wrRo a := by
  have apart : ∀ a : Addr, (roAddrs.contains a.toNat = true ∨ rsvAddrs.contains a.toNat = true) → a ∉ writeRegs
      ∧ ¬(0x40 ≤ a.toNat ∧ a.toNat ≤ 0x4D) ∧ ¬(0x50 ≤ a.toNat ∧ a.toNat ≤ 0x5D) := by
    decide
  obtain ⟨hreg, hhigh, hlow⟩ := apart a h
  rw [decodeWrite_of_not_reg hreg, dif_neg hhigh, dif_neg hlow, isReserved_eq]

/-- A write of a reserved address (R222). -/
theorem decodeWrite_reserved (h : rsvAddrs.contains a.toNat = true) : decodeWrite a d = .wrRsv a := by
  rw [decodeWrite_of_no_operand (.inr h), if_pos h]

/-- A write of a read-only register (R221). -/
theorem decodeWrite_readOnly (h : roAddrs.contains a.toNat = true) : decodeWrite a d = .wrRo a := by
  have notReserved : ∀ a : Addr, roAddrs.contains a.toNat = true → ¬rsvAddrs.contains a.toNat = true := by decide
  rw [decodeWrite_of_no_operand (.inl h), if_neg (notReserved a h)]

/-- A read of a write-only register (R223). -/
theorem decodeRead_writeOnly (h : woAddrs.contains a.toNat = true) : decodeRead a = .rdWo a := by
  revert a
  decide

/-- A read of a reserved address (R223). -/
theorem decodeRead_reserved (h : rsvAddrs.contains a.toNat = true) : decodeRead a = .rdRsv a := by
  revert a
  decide

/-- A read of a readable register (R210). -/
theorem decodeRead_readable (h : readableAddrs.contains a.toNat = true) : decodeRead a = .rd a := by
  revert a
  decide

/-- A command by its opcode (R83, R214, R216). -/
theorem decodeCmd_cases (op : Byte) :
    (op = 0x00 ∧ decodeCmd op = .nop) ∨ (op = 0x01 ∧ decodeCmd op = .crcInit) ∨ (op = 0x02 ∧ decodeCmd op = .distEst)
      ∨ (op = 0x03 ∧ decodeCmd op = .distEstRx) ∨ (4 ≤ op.toNat ∧ decodeCmd op = .cmdRsv op) := by
  revert op
  decide

/-- An opcode of 0x04 or more is reserved (R216). -/
theorem decodeCmd_reserved {op : Byte} (h : 4 ≤ op.toNat) : decodeCmd op = .cmdRsv op := by
  rcases decodeCmd_cases op with ⟨rfl, _⟩ | ⟨rfl, _⟩ | ⟨rfl, _⟩ | ⟨rfl, _⟩ | ⟨_, he⟩
  case inr.inr.inr.inr => exact he
  all_goals exact absurd h (by decide)

/-- The rows of the host's words by direction, address and opcode: with `data = d`, an access of an address is an operation
(`decodeHostWord_hostRowFor` ties it to the decoder). -/
inductive HostRowFor (d : Word) : Bool → Addr → Instr → Prop where
  | nop (h : d.extractLsb' 0 8 = 0x00) : HostRowFor d true 0x02 .nop
  | crcInit (h : d.extractLsb' 0 8 = 0x01) : HostRowFor d true 0x02 .crcInit
  | distEst (h : d.extractLsb' 0 8 = 0x02) : HostRowFor d true 0x02 .distEst
  | distEstRx (h : d.extractLsb' 0 8 = 0x03) : HostRowFor d true 0x02 .distEstRx
  | cmdRsv (h : 4 ≤ (d.extractLsb' 0 8).toNat) : HostRowFor d true 0x02 (.cmdRsv (d.extractLsb' 0 8))
  | wrStatus : HostRowFor d true 0x00 (.wrStatus (d.extractLsb' 1 4))
  | wrIrqen : HostRowFor d true 0x01 (.wrIrqen (d.extractLsb' 1 4))
  | wrCrcData : HostRowFor d true 0x03 (.wrCrcData (d.extractLsb' 0 8))
  | wrDistHgIn : HostRowFor d true 0x05 (.wrDistHgIn (d.extractLsb' 0 10))
  | wrDistLgIn : HostRowFor d true 0x06 (.wrDistLgIn (d.extractLsb' 0 10))
  | wrTxPeriod : HostRowFor d true 0x08 (.wrTxPeriod d)
  | wrCalHigh (i : Fin 14) : HostRowFor d true (BitVec.ofNat 7 (0x40 + i.val)) (.wrCalHigh i d)
  | wrCalLow (i : Fin 14) : HostRowFor d true (BitVec.ofNat 7 (0x50 + i.val)) (.wrCalLow i d)
  | wrRo {a : Addr} (h : roAddrs.contains a.toNat = true) : HostRowFor d true a (.wrRo a)
  | wrRsv {a : Addr} (h : rsvAddrs.contains a.toNat = true) : HostRowFor d true a (.wrRsv a)
  | rdWo {a : Addr} (h : woAddrs.contains a.toNat = true) : HostRowFor d false a (.rdWo a)
  | rdRsv {a : Addr} (h : rsvAddrs.contains a.toNat = true) : HostRowFor d false a (.rdRsv a)
  | rd {a : Addr} (h : readableAddrs.contains a.toNat = true) : HostRowFor d false a (.rd a)

/-- A CMD write is a command's row. -/
theorem decodeCmd_hostRowFor (d : Word) : HostRowFor d true 0x02 (decodeCmd (d.extractLsb' 0 8)) := by
  rcases decodeCmd_cases (d.extractLsb' 0 8) with ⟨h, he⟩ | ⟨h, he⟩ | ⟨h, he⟩ | ⟨h, he⟩ | ⟨h, he⟩ <;> rw [he]
  exacts [.nop h, .crcInit h, .distEst h, .distEstRx h, .cmdRsv h]

/-- The decoder gives every HBUS word a row (R84: none traps). -/
theorem decodeHostWord_hostRowFor (b : Bool) (a : Addr) (d : Word) :
    HostRowFor d b a (decodeHostWord (hostWord b a d)) := by
  simp only [decodeHostWord, hostWe_hostWord, hostAddr_hostWord, hostData_hostWord]
  cases b with
  | true =>
    rw [if_pos rfl]
    rcases writeAddr_cases a with rfl | rfl | rfl | rfl | rfl | rfl | rfl | ⟨i, rfl⟩ | ⟨i, rfl⟩ | h | h
    · exact .wrStatus
    · exact .wrIrqen
    · exact decodeCmd_hostRowFor d
    · exact .wrCrcData
    · exact .wrDistHgIn
    · exact .wrDistLgIn
    · exact .wrTxPeriod
    · rw [decodeWrite_calHigh]; exact .wrCalHigh i
    · rw [decodeWrite_calLow]; exact .wrCalLow i
    · rw [decodeWrite_readOnly h]; exact .wrRo h
    · rw [decodeWrite_reserved h]; exact .wrRsv h
  | false =>
    rw [if_neg Bool.false_ne_true]
    rcases readAddr_cases a with h | h | h
    · rw [decodeRead_writeOnly h]; exact .rdWo h
    · rw [decodeRead_reserved h]; exact .rdRsv h
    · rw [decodeRead_readable h]; exact .rd h

end Sys2Proof
end

section
/-! Encoding and decoding agree (30_encoding.md R81 to R87; logs 12, 13, 21): the operand fields of a `data` word put in and taken
out, and the two round trips. -/

namespace Sys2Proof

open Sys2Proof.Machine

variable {a : Addr} {d : Word}

section fields

/-- An operand in the low bits of `data` is read back (R82). -/
theorem extractLsb'_setWidth {n : Nat} (v : BitVec n) (hn : n ≤ 16 := by decide) :
    (v.setWidth 16).extractLsb' 0 n = v := by
  rw [BitVec.extractLsb'_setWidth_of_le (by omega), BitVec.extractLsb'_eq_self]

/-- The low bits of `data` as an operand, written again: the others are 0 (R82). -/
theorem setWidth_extractLsb' (n : Nat) : (d.extractLsb' 0 n).setWidth 16 = d &&& (BitVec.allOnes n).setWidth 16 := by
  apply BitVec.eq_of_getLsbD_eq
  intro i hi
  simp [hi, Bool.and_comm]

/-- The opcode is what the command rows' mask keeps of `data` (R214). -/
theorem data_and_opMask {op : Byte} (h : d.extractLsb' 0 8 = op) : d &&& 0x00FF#16 = op.setWidth 16 :=
  h ▸ (setWidth_extractLsb' 8).symm

/-- The operand of STATUS and IRQEN is read back (R82). -/
theorem extractLsb'_flagData (f : BitVec 4) : (flagData f).extractLsb' 1 4 = f := by
  revert f
  decide

/-- The operand of STATUS and IRQEN, written again (R82). -/
theorem flagData_extractLsb' : flagData (d.extractLsb' 1 4) = d &&& 0x001E#16 := by
  have mask : ∀ i < 16, (0x001E#16).getLsbD i = (!decide (i < 1) && decide (i - 1 < 4)) := by decide
  apply BitVec.eq_of_getLsbD_eq
  intro i hi
  simp only [flagData, BitVec.getLsbD_append, BitVec.getLsbD_extractLsb', BitVec.getLsbD_and, mask i hi]
  by_cases h1 : i < 1
  · simp [h1]
  · by_cases h4 : i - 1 < 4
    · simp [h1, h4, show 1 + (i - 1) = i by omega]
    · simp [h1, h4]

end fields

/-- A cycle with one event operation decodes to it. -/
theorem decodeFirst_eventInput {e : Byte} {adc : Sample} {rnd : Byte} {i : Instr} (h : decodeEvents e adc rnd = [i]) :
    decodeFirst (eventInput e adc rnd) = i := by
  simp only [decodeFirst, eventInput, h]

/-- The event vector of every EDGE row is EDGE's (R114 to R125). -/
theorem decodeFirst_edgeInput (adc : Sample) : decodeFirst (eventInput 0x02 adc 0) = .edge adc :=
  decodeFirst_eventInput (by simp [decodeEvents])

/-- The event vector of DONE_FAIL comes with `rnd` (R148). -/
theorem decodeFirst_doneFailInput (rnd : Byte) : decodeFirst (eventInput 0x20 0 rnd) = .doneFail rnd :=
  decodeFirst_eventInput (by simp [decodeEvents])

/-- Settles O1: a host row decodes by its address and the operand field it was given; an event row by its one bit. -/
theorem decodeEncodeAgree : Obligations.DecodeEncodeAgree := by
  intro i wf
  cases i with
  | cmdRsv op =>
    refine (decodeFirst_writeInput ..).trans (?_ : decodeCmd _ = _)
    rw [extractLsb'_setWidth, decodeCmd_reserved (of_decide_eq_true wf)]
    rfl
  | wrStatus f => exact (decodeFirst_writeInput ..).trans (congrArg Instr.wrStatus (extractLsb'_flagData f))
  | wrIrqen f => exact (decodeFirst_writeInput ..).trans (congrArg Instr.wrIrqen (extractLsb'_flagData f))
  | wrCrcData v => exact (decodeFirst_writeInput ..).trans (congrArg Instr.wrCrcData (extractLsb'_setWidth v))
  | wrDistHgIn v => exact (decodeFirst_writeInput ..).trans (congrArg Instr.wrDistHgIn (extractLsb'_setWidth v))
  | wrDistLgIn v => exact (decodeFirst_writeInput ..).trans (congrArg Instr.wrDistLgIn (extractLsb'_setWidth v))
  | wrTxPeriod p => exact decodeFirst_writeInput ..
  | wrCalHigh k v => exact (decodeFirst_writeInput ..).trans (decodeWrite_calHigh k)
  | wrCalLow k v => exact (decodeFirst_writeInput ..).trans (decodeWrite_calLow k)
  | wrRo a => exact (decodeFirst_writeInput ..).trans (decodeWrite_readOnly wf)
  | wrRsv a => exact (decodeFirst_writeInput ..).trans (decodeWrite_reserved wf)
  | rdWo a => exact (decodeFirst_readInput ..).trans (decodeRead_writeOnly wf)
  | rdRsv a => exact (decodeFirst_readInput ..).trans (decodeRead_reserved wf)
  | rd a => exact (decodeFirst_readInput ..).trans (decodeRead_readable wf)
  | nop | crcInit | distEst | distEstRx | hbusIdle | rxTimeout => rfl
  | reset | tick | rspFrame | rspNone | doneOk | runEligible | txCompare => rfl
  | doneFail rnd => exact decodeFirst_doneFailInput rnd
  | edge | edgeDrop | edgeStart | edgeStray | edgeData | edgeStop | edgeStopLeadOk | edgeStopCollision | edgeStopByte
    | edgeStopDispatch | edgeStopCrcDrop => exact decodeFirst_edgeInput _

/-- A reserved command keeps its opcode, and a start bit's row comes back as EDGE with its sample. -/
theorem decodeEncodeAgree_applies :
    decodeFirst (encode (.cmdRsv 0x04)) = .cmdRsv 0x04 ∧ decodeFirst (encode (.edgeStart 1023)) = .edge 1023 :=
  ⟨decodeEncodeAgree _ (by decide), decodeEncodeAgree _ rfl⟩

/-- Every HBUS word is three fields and has the row of its fields. -/
theorem exists_hostRowFor (w : HostWord) : ∃ b a d, w = hostWord b a d ∧ HostRowFor d b a (decodeHostWord w) :=
  ⟨hostWe w, hostAddr w, hostData w, (hostWord_fields w).symm, by
    simpa only [hostWord_fields] using decodeHostWord_hostRowFor (hostWe w) (hostAddr w) (hostData w)⟩

/-- Settles O2: what a row asks of its address or opcode is what its operand must satisfy. -/
theorem hostWordsDecodeWellFormed : Obligations.HostWordsDecodeWellFormed := by
  intro w
  obtain ⟨b, a, d, -, row⟩ := exists_hostRowFor w
  generalize decodeHostWord w = i at row
  cases row with
  | cmdRsv h => exact ⟨decide_eq_true h, rfl⟩
  | wrRo h | wrRsv h | rdWo h | rdRsv h | rd h => exact ⟨h, rfl⟩
  | _ => exact ⟨rfl, rfl⟩

/-- Two words meet field by field (R81). -/
theorem hostWord_and (b b' : Bool) (a a' : Addr) (d d' : Word) :
    hostWord b a d &&& hostWord b' a' d' = hostWord (b && b') (a &&& a') (d &&& d') := by
  apply BitVec.eq_of_getLsbD_eq
  intro i hi
  simp only [hostWord, BitVec.getLsbD_and, BitVec.getLsbD_append]
  repeat' split
  · rfl
  · rfl
  · cases b <;> cases b' <;> simp

/-- A mask that keeps `we` and `addr` cuts `data` alone. -/
theorem hostWord_and_dataMask (b : Bool) (a : Addr) (d m : Word) :
    hostWord b a d &&& hostWord true 0x7F m = hostWord b a (d &&& m) := by
  rw [hostWord_and, Bool.and_true, show (0x7F : Addr) = BitVec.allOnes 7 from rfl, BitVec.and_allOnes]

/-- Settles O3: a row writes `we` and `addr` back as they were and `data` cut down to its operand field. -/
theorem hostWordReencodes : Obligations.HostWordReencodes := by
  intro w
  obtain ⟨b, a, d, rfl, row⟩ := exists_hostRowFor w
  generalize decodeHostWord (hostWord b a d) = i at row
  have word {b : Bool} {a : Addr} {x m : Word} {i : Instr} (h : x = d &&& m) (hm : careBits i = hostWord true 0x7F m) :
      { CycleInput.idle with host := some (hostWord b a x) }
        = { CycleInput.idle with host := some (hostWord b a d &&& careBits i) } := by
    rw [hm, hostWord_and_dataMask, h]
  cases row with
  | nop h | crcInit h | distEst h | distEstRx h => exact word (data_and_opMask h).symm rfl
  | cmdRsv _ | wrCrcData => exact word (data_and_opMask rfl).symm rfl
  | wrStatus | wrIrqen => exact word flagData_extractLsb' rfl
  | wrDistHgIn | wrDistLgIn => exact word (setWidth_extractLsb' 10) rfl
  | wrTxPeriod | wrCalHigh | wrCalLow => exact word BitVec.and_allOnes.symm rfl
  | wrRo | wrRsv | rdWo | rdRsv | rd => exact word BitVec.and_zero.symm rfl

end Sys2Proof
end

section
/-! The first matching row of spec/opcode_table.json (30_encoding.md R97 item 4): the HBUS rows are told apart by match, mask and
`addr` set, but for CMD_RSV, which shares its address with the four commands above it. -/

namespace Sys2Proof.Machine

variable {b : Bool} {a : Addr} {d : Word} {w : HostWord} {q r : HostRow} {k : Nat}

/-- A word is another where its three fields are (R81). -/
theorem hostWord_eq_iff : hostWord b a d = w ↔ b = hostWe w ∧ a = hostAddr w ∧ d = hostData w := by
  constructor
  · rintro rfl
    simp
  · rintro ⟨rfl, rfl, rfl⟩
    exact hostWord_fields w

/-- A row matches a word field by field. -/
theorem HostRow.matchesWord_hostWord :
    r.matchesWord (hostWord b a d) = true ↔
      ((b && hostWe r.mask) = hostWe r.pat ∧ a &&& hostAddr r.mask = hostAddr r.pat ∧ d &&& hostData r.mask = hostData r.pat)
        ∧ r.addrs.contains a.toNat = true := by
  have masked : hostWord b a d &&& r.mask
      = hostWord (b && hostWe r.mask) (a &&& hostAddr r.mask) (d &&& hostData r.mask) := by
    rw [← hostWord_and, hostWord_fields]
  rw [HostRow.matchesWord, hostAddr_hostWord, masked, Bool.and_eq_true, beq_iff_eq, hostWord_eq_iff]

/-- Two rows no word can share: they disagree on a bit that both fix, or have no address in common. -/
def HostRow.apart (q r : HostRow) : Bool :=
  (q.pat &&& r.mask) != (r.pat &&& q.mask) || q.addrs.all fun n => !r.addrs.contains n

/-- A word of one of two such rows is not the other's. -/
theorem HostRow.not_matchesWord_of_apart (hqr : q.apart r = true) (hr : r.matchesWord w = true) :
    q.matchesWord w = false := by
  refine Bool.eq_false_of_not_eq_true fun hq => ?_
  simp only [HostRow.matchesWord, Bool.and_eq_true, beq_iff_eq] at hq hr
  obtain ⟨hqp, hqa⟩ := hq
  obtain ⟨hrp, hra⟩ := hr
  rw [HostRow.apart, Bool.or_eq_true, bne_iff_ne, List.all_eq_true] at hqr
  rcases hqr with hne | hdisj
  · exact hne (by rw [← hqp, ← hrp, BitVec.and_assoc, BitVec.and_assoc, BitVec.and_comm q.mask])
  · have := hdisj _ (List.contains_iff_mem.1 hqa)
    rw [hra] at this
    cases this

/-- Every row but CMD_RSV is apart from all rows above it. -/
theorem hostRows_apart : ∀ k < 18, k ≠ 4 → ∀ r ∈ hostRows[k]?, ∀ q ∈ hostRows.take k, q.apart r = true := by
  decide

/-- The first row a word matches. -/
theorem findIdx?_hostRows (hk : hostRows[k]? = some r) (hr : r.matchesWord w = true)
    (above : ∀ q ∈ hostRows.take k, q.matchesWord w = false) :
    hostRows.findIdx? (·.matchesWord w) = some k := by
  obtain ⟨hlt, rfl⟩ := List.getElem?_eq_some_iff.1 hk
  refine List.findIdx?_eq_some_iff_getElem.2 ⟨hlt, hr, fun j hj => ?_⟩
  rw [above _ (List.mem_take_iff_getElem.2 ⟨j, by omega, rfl⟩)]
  exact Bool.false_ne_true

/-- A row other than CMD_RSV that a word matches is the first. -/
theorem findIdx?_hostRows_of_ne (hk : hostRows[k]? = some r) (hr : r.matchesWord w = true) (h4 : k ≠ 4) :
    hostRows.findIdx? (·.matchesWord w) = some k :=
  have hlt : k < 18 := (List.getElem?_eq_some_iff.1 hk).1
  findIdx?_hostRows hk hr fun q hq => HostRow.not_matchesWord_of_apart (hostRows_apart k hlt h4 r hk q hq) hr

/-- A reserved opcode is none of the four commands above CMD_RSV (R216). -/
theorem command_not_matches (hop : 4 ≤ (d.extractLsb' 0 8).toNat) :
    ∀ q ∈ hostRows.take 4, q.matchesWord (hostWord b a d) = false := by
  have commands : ∀ q ∈ hostRows.take 4, hostData q.mask = 0x00FF#16 ∧ (hostData q.pat).toNat < 4 := by decide
  intro q hq
  refine Bool.eq_false_of_not_eq_true fun hm => ?_
  obtain ⟨⟨_, _, hd⟩, _⟩ := HostRow.matchesWord_hostWord.1 hm
  obtain ⟨hmask, hpat⟩ := commands q hq
  rw [← hd, hmask, data_and_opMask rfl, BitVec.toNat_setWidth_of_le (by decide)] at hpat
  exact absurd hop (Nat.not_le.2 hpat)

/-- The address of a calibration entry is in its row's set and has its row's match (R219, R220). -/
theorem entryAddr_of_table :
    ∀ base ∈ [0x40, 0x50], ∀ i : Fin 14,
      (List.range' base 14).contains (BitVec.ofNat 7 (base + i.val)).toNat = true
        ∧ BitVec.ofNat 7 (base + i.val) &&& 0x70 = BitVec.ofNat 7 base := by
  decide

/-- Settles O4: the row of the decoded operation matches the word, and no row above it does. -/
theorem firstMatchingRow : Obligations.FirstMatchingRow := by
  intro w
  obtain ⟨b, a, d, rfl, row⟩ := exists_hostRowFor w
  generalize decodeHostWord (hostWord b a d) = i at row
  have first {k : Nat} {r : HostRow} (hk : hostRows[k]? = some r) (hs : r.addrs.contains a.toNat = true)
      (hd : d &&& hostData r.mask = hostData r.pat) (ha : a &&& hostAddr r.mask = hostAddr r.pat)
      (hb : (b && hostWe r.mask) = hostWe r.pat) (h4 : k ≠ 4 := by decide) :
      hostRows.findIdx? (·.matchesWord (hostWord b a d)) = some k :=
    findIdx?_hostRows_of_ne hk (HostRow.matchesWord_hostWord.2 ⟨⟨hb, ha, hd⟩, hs⟩) h4
  cases row with
  | nop h => exact first (k := 0) rfl rfl (data_and_opMask h) rfl rfl
  | crcInit h => exact first (k := 1) rfl rfl (data_and_opMask h) rfl rfl
  | distEst h => exact first (k := 2) rfl rfl (data_and_opMask h) rfl rfl
  | distEstRx h => exact first (k := 3) rfl rfl (data_and_opMask h) rfl rfl
  | cmdRsv h =>
    exact findIdx?_hostRows (k := 4) rfl (HostRow.matchesWord_hostWord.2 ⟨⟨rfl, rfl, BitVec.and_zero⟩, rfl⟩)
      (command_not_matches h)
  | wrStatus => exact first (k := 5) rfl rfl BitVec.and_zero rfl rfl
  | wrIrqen => exact first (k := 6) rfl rfl BitVec.and_zero rfl rfl
  | wrCrcData => exact first (k := 7) rfl rfl BitVec.and_zero rfl rfl
  | wrDistHgIn => exact first (k := 8) rfl rfl BitVec.and_zero rfl rfl
  | wrDistLgIn => exact first (k := 9) rfl rfl BitVec.and_zero rfl rfl
  | wrTxPeriod => exact first (k := 10) rfl rfl BitVec.and_zero rfl rfl
  | wrCalHigh i =>
    obtain ⟨hs, ha⟩ := entryAddr_of_table 0x40 (by decide) i
    exact first (k := 11) rfl hs BitVec.and_zero ha rfl
  | wrCalLow i =>
    obtain ⟨hs, ha⟩ := entryAddr_of_table 0x50 (by decide) i
    exact first (k := 12) rfl hs BitVec.and_zero ha rfl
  | wrRo h => exact first (k := 13) rfl h BitVec.and_zero BitVec.and_zero rfl
  | wrRsv h => exact first (k := 14) rfl h BitVec.and_zero BitVec.and_zero rfl
  | rdWo h => exact first (k := 15) rfl h BitVec.and_zero BitVec.and_zero rfl
  | rdRsv h => exact first (k := 16) rfl h BitVec.and_zero BitVec.and_zero rfl
  | rd h => exact first (k := 17) rfl h BitVec.and_zero BitVec.and_zero rfl

end Sys2Proof.Machine
end

section
/-! Words of the opcode table and event vectors (30_encoding.md R81, R85, R97). -/

namespace Sys2Proof

variable {i j k : Instr}

/-- Settles O5: each of the words is run through the decoder. -/
theorem specWordsDecode : Obligations.SpecWordsDecode := by
  unfold Obligations.SpecWordsDecode
  decide

/-- An operation presented where a bit is set (R85). -/
theorem mem_presented {p : Bool} : i ∈ (if p then [j] else []) ↔ i = j ∧ p = true := by
  cases p <;> simp

/-- One of two operations presented where a bit is set, by the bit that qualifies it (R85). -/
theorem mem_qualified {p q : Bool} :
    i ∈ (if p then [if q then j else k] else []) ↔ (i = j ∧ p = true ∧ q = true) ∨ (i = k ∧ p = true ∧ q = false) := by
  cases p <;> cases q <;> simp

/-- Settles O6: past bit 0, which overrides the others, each bit presents its own operation. -/
theorem eventVectorDecodes : Obligations.EventVectorDecodes := by
  intro e adc rnd
  refine ⟨fun h0 => if_pos h0, fun h0 i => ?_⟩
  rw [decodeEvents, if_neg (ne_true_of_eq_false h0)]
  simp only [List.mem_append, mem_qualified, or_assoc]
  simp only [mem_presented]

/-- All events but reset, with no frame and no success: neither RSP_FRAME nor DONE_OK is presented. -/
theorem eventVectorDecodes_applies (adc : Sample) (rnd : Byte) :
    .doneFail rnd ∈ decodeEvents 0xAE adc rnd ∧ .doneOk ∉ decodeEvents 0xAE adc rnd := by
  obtain ⟨_, presents⟩ := eventVectorDecodes 0xAE adc rnd
  rw [presents rfl, presents rfl]
  simp

end Sys2Proof
end

section
/-! Operations complete where `rx_idx` is inside the frame buffer (30_encoding.md R80; 60_exceptions.md R238; log 10). -/

namespace Sys2Proof.Machine

variable {i : Instr} {s : State} {adc : Sample}

/-- The row of an edge completes unless it is a stop bit past the buffer. -/
theorem exec_edgeRow_completes {k : EdgeKind} (hk : k ≠ .stopOutOfRange) (s : State) :
    ∃ t, exec (edgeRow adc k) s = .next t := by
  cases k with
  | stopOutOfRange => exact absurd rfl hk
  | _ => exact ⟨_, rfl⟩

/-- EDGE completes where `rx_idx` is at most 11. -/
theorem exec_edge_completes (hidx : s.rxd.idx.toNat ≤ 11) : ∃ t, exec (.edge adc) s = .next t := by
  rw [exec_edge_eq_edgeRow]
  exact exec_edgeRow_completes (edgeKind_ne_outOfRange hidx) s

/-- Every RXD operation completes where `rx_idx` is at most 11. -/
theorem execRx_completes (hi : isRxOp i = true) (hidx : s.rxd.idx.toNat ≤ 11) : ∃ t, exec i s = .next t := by
  cases i with
  | edge => exact exec_edge_completes hidx
  | edgeStop adc =>
    cases hk : (edgeKind s).isStop with
    | true => rw [← exec_edge_of_isStop hk]; exact exec_edge_completes hidx
    | false => exact ⟨s, exec_edgeStop_of_not_isStop hk⟩
  | edgeDrop | edgeStart | edgeStray | edgeData | edgeStopLeadOk | edgeStopCollision | edgeStopByte | edgeStopDispatch
    | edgeStopCrcDrop | rxTimeout => exact ⟨_, rfl⟩
  | _ => cases hi

/-- Settles O60: the bound matters to RXD's operations alone. -/
theorem everyOperationCompletes : Obligations.EveryOperationCompletes := by
  intro i s hidx
  rcases instr_unit i with rfl | hi | hi | hi
  · exact ⟨_, rfl⟩
  · exact execHost_completes hi s
  · exact execTx_completes hi s
  · exact execRx_completes hi hidx

/-- The last stop bit of a frame completes, at the bound. -/
theorem everyOperationCompletes_applies : ∃ t, exec (.edgeStop 0) lastStopDue = .next t :=
  everyOperationCompletes _ _ (by decide)

end Sys2Proof.Machine
end

section
/-! The data inputs `adc_data` and `rnd` (30_encoding.md R86): two cycles that differ in one of them answer alike where no rule
reads it. -/

namespace Sys2Proof.Machine

variable {c c' : CycleInput} {s : State} {rest : List CycleInput} {adc adc' : Sample}

/-- RXD's part of a cycle (R266 steps 2 to 4) reads the inputs' edge, after the timeout. -/
theorem rxPhase_congr {s0 : State} (ht : timeoutDue s0 = timeoutDue s) (hr : inReset c = false) (hevt : c'.evt = c.evt)
    (hedge : c.evt.getLsbD 1 = true → exec (.edge c'.adc) (if timeoutDue s then s.rxReset else s)
      = exec (.edge c.adc) (if timeoutDue s then s.rxReset else s)) :
    rxPhase c' s0 s = rxPhase c s0 s := by
  have hr' : inReset c' = false := (congrArg (·.getLsbD 0) hevt).trans hr
  simp only [rxPhase, runOps_append, runOps_timeoutOps ht, andThen_next, edgeOps_eq hr, edgeOps_eq hr', hevt]
  cases he : c.evt.getLsbD 1 with
  | true => simp only [if_true, runOps_cons, hedge he]
  | false => rfl

/-- TXB's operation reads `rnd` where a send fails (R148). -/
theorem txOperation_congr (hevt : c'.evt = c.evt)
    (hrnd : s.txb.state = .waitSend → c.evt.getLsbD 5 = true → c.evt.getLsbD 6 = false → c'.rnd = c.rnd) :
    txOperation s c' = txOperation s c := by
  unfold txOperation
  rw [hevt]
  cases hs : s.txb.state with
  | idle | waitFrame => rfl
  | waitSend =>
    cases h5 : c.evt.getLsbD 5 with
    | false => rfl
    | true =>
      cases h6 : c.evt.getLsbD 6 with
      | true => rfl
      | false => rw [hrnd hs h5 h6]

/-- Cycles with the same events and host word run alike where their edge and TXB's operation do (R266). -/
theorem runCycle_congr (hevt : c'.evt = c.evt) (hhost : c'.host = c.host)
    (hrx : inReset c = false → ∀ v, rxPhase c' s.beginCycle (s.beginCycle.readOut v)
      = rxPhase c s.beginCycle (s.beginCycle.readOut v))
    (htx : inReset c = false → txOperation s.beginCycle c' = txOperation s.beginCycle c) :
    runCycle c' s.beginCycle = runCycle c s.beginCycle := by
  have hreset : inReset c' = inReset c := congrArg (·.getLsbD 0) hevt
  have hread : hostReadValue s c' = hostReadValue s c := by simp only [hostReadValue, hhost]
  have hwrite : writeOps c' = writeOps c := by simp only [writeOps, hhost]
  simp only [runCycle, runOps_readOps, andThen_next, hread, hreset]
  cases hr : inReset c with
  | true => simp only [if_true, events_eq_reset hr, events_eq_reset (hreset.trans hr)]
  | false =>
    have hphase : txHostPhase c' s.beginCycle = txHostPhase c s.beginCycle := by
      funext u
      simp only [txHostPhase, levelOps_eq hr, levelOps_eq (hreset.trans hr), txOps_eq hr, txOps_eq (hreset.trans hr),
        htx hr, hwrite, hevt]
    simp only [Bool.false_eq_true, if_false, hrx hr, hphase]

/-- Steps from one state whose inputs run alike are alike. -/
theorem step_withInputs_congr
    (h : runCycle c' (s.withInputs (c :: rest)).beginCycle = runCycle c (s.withInputs (c :: rest)).beginCycle) :
    step (s.withInputs (c :: rest)) = step (s.withInputs (c' :: rest)) :=
  congrArg (fun o => if paramsLegal s.params then andThen o fun t => .next t.endCycle else .refused .illegalParams) h.symm

/-- A start bit of a payload byte takes no sample (R116). -/
theorem startBit_of_not_lead (hl : s.rxd.lead = false) : s.startBit adc' = s.startBit adc := by
  simp [State.startBit, hl]

/-- Outside a leading byte an edge is neither of the two stop bits that take a sample (R120 to R122). -/
theorem edgeKind_of_not_lead (hl : s.rxd.lead = false) : edgeKind s ≠ .stopLeadOk ∧ edgeKind s ≠ .stopCollision := by
  have stop : stopKind s.rxd ≠ .stopLeadOk ∧ stopKind s.rxd ≠ .stopCollision := by
    unfold stopKind
    rw [if_neg (ne_true_of_eq_false hl)]
    split_ifs <;> decide
  unfold edgeKind
  dsimp only
  split_ifs
  case neg => exact stop
  all_goals decide

/-- An edge reads `adc_data` at a start bit and a stop bit of a leading byte alone (R116, R121, R122). -/
theorem exec_edge_adc (h : edgeKind s = .drop ∨ s.rxd.lead = false ∨ edgeKind s = .stray ∨ edgeKind s = .data) :
    exec (.edge adc') s = exec (.edge adc) s := by
  rw [exec_edge_eq_edgeRow, exec_edge_eq_edgeRow]
  cases hk : edgeKind s with
  | drop | stray | data | stopByte | stopDispatch | stopCrcDrop => rfl
  | stopOutOfRange => exact (exec_stop_of_outOfRange hk).1.trans (exec_stop_of_outOfRange hk).1.symm
  | start =>
    have hl : s.rxd.lead = false := by simpa [hk] using h
    show execEdgeStart adc' s = execEdgeStart adc s
    rw [execEdgeStart, execEdgeStart, startBit_of_not_lead hl]
  | stopLeadOk => exact absurd hk (edgeKind_of_not_lead (by simpa [hk] using h)).1
  | stopCollision => exact absurd hk (edgeKind_of_not_lead (by simpa [hk] using h)).2

/-- Settles O54: `rnd` reaches TXB's operation alone and `adc_data` the edge alone, each by the rule that reads it. -/
theorem drawsReadOnlyWhereStated : Obligations.DrawsReadOnlyWhereStated := by
  intro s c rest
  refine ⟨fun rnd notRead => ?rnd, fun adc notRead => ?adc⟩
  case rnd =>
    refine step_withInputs_congr (runCycle_congr rfl rfl (fun hr v => rxPhase_congr rfl hr rfl fun _ => rfl) fun hr => ?_)
    exact txOperation_congr rfl fun hs h5 h6 => absurd ⟨hr, hs, h5, h6⟩ notRead
  case adc =>
    refine step_withInputs_congr (runCycle_congr rfl rfl (fun hr v => rxPhase_congr rfl hr rfl fun he => ?_) fun _ => rfl)
    rcases notRead with h | h | h | ⟨ht, h⟩
    · exact absurd (hr.symm.trans h) Bool.false_ne_true
    · exact absurd (h.symm.trans he) Bool.false_ne_true
    · refine exec_edge_adc (.inl (edgeKind_of_waitSend ?_))
      split <;> exact h
    · change exec _ (if timeoutDue s then _ else _) = exec _ (if timeoutDue s then _ else _)
      rw [if_neg (ne_true_of_eq_false ht)]
      exact exec_edge_adc (.inr h)

/-- The edge that dispatches a frame, and a send that succeeds. -/
theorem drawsReadOnlyWhereStated_applies (adc : Sample) (rnd : Byte) :
    step (lastStopDue.withInputs [eventInput 0x02 0 0]) = step (lastStopDue.withInputs [eventInput 0x02 adc 0])
    ∧ step ((State.reset.goTx .waitSend).withInputs [eventInput 0x60 0 0])
      = step ((State.reset.goTx .waitSend).withInputs [eventInput 0x60 0 rnd]) :=
  ⟨(drawsReadOnlyWhereStated _ _ _).2 adc (.inr (.inr (.inr ⟨by decide, .inl rfl⟩))),
    (drawsReadOnlyWhereStated _ _ _).1 rnd (by decide)⟩

end Sys2Proof.Machine
end

section
/-! The rows of an edge (40_rx_decoder.md R112 to R125): what each row does where the state selects it, by its own row, by EDGE_STOP
and by EDGE. -/

namespace Sys2Proof.Machine

variable {s : State} {r : Rxd} {adc : Sample} {k : EdgeKind}

/-- What the row of an edge does where the state selects it (`exec_row_and_edge` ties it to the operations); a stop bit no rule
covers does not go on, and stands here as no change. -/
def edgeEffect (adc : Sample) : EdgeKind → State → State
  | .drop, s | .stopOutOfRange, s => s
  | .start, s => s.startBit adc
  | .stray, s => s.takeEdge.rxReset
  | .data, s => s.dataBit
  | .stopLeadOk, s => (s.stopBit.sampleLow adc).leadDone
  | .stopCollision, s => (s.stopBit.sampleLow adc).rxReset
  | .stopByte, s => s.stopBit.storeByte
  | .stopDispatch, s => s.stopBit.storeLast.rxReset.dispatchFrame.raiseCause .frameDispatched
  | .stopCrcDrop, s => s.stopBit.storeLast.rxReset

/-- The row the state selects and EDGE both have the row's effect (R114). -/
theorem exec_row_and_edge (hk : edgeKind s = k) (hs : k ≠ .stopOutOfRange) :
    exec (edgeRow adc k) s = .next (edgeEffect adc k s) ∧ exec (.edge adc) s = .next (edgeEffect adc k s) := by
  have row : exec (edgeRow adc k) s = .next (edgeEffect adc k s) := by
    cases k with
    | drop => rfl
    | stopOutOfRange => exact absurd rfl hs
    | _ => exact congrArg Host.Outcome.next (if_pos hk)
  exact ⟨row, by rw [exec_edge_eq_edgeRow, hk, row]⟩

/-- So has EDGE_STOP, where the row is a stop bit's (R120). -/
theorem exec_stopRow_and_edge (hk : edgeKind s = k) (hs : k ≠ .stopOutOfRange) (hstop : k.isStop = true) :
    exec (edgeRow adc k) s = .next (edgeEffect adc k s) ∧ exec (.edgeStop adc) s = .next (edgeEffect adc k s)
      ∧ exec (.edge adc) s = .next (edgeEffect adc k s) := by
  obtain ⟨row, edge⟩ := exec_row_and_edge (adc := adc) hk hs
  exact ⟨row, (exec_edge_of_isStop (hk ▸ hstop)).symm.trans edge, edge⟩

section stopKind

/-- R121's case. -/
theorem stopKind_of_clean (hl : r.lead = true) (hb : r.byte = 0) : stopKind r = .stopLeadOk := by
  rw [stopKind, if_pos hl, if_pos hb]

/-- R122's case. -/
theorem stopKind_of_nonzero (hl : r.lead = true) (hb : r.byte ≠ 0) : stopKind r = .stopCollision := by
  rw [stopKind, if_pos hl, if_neg hb]

/-- R123's case. -/
theorem stopKind_of_idx_le (hl : r.lead = false) (hi : r.idx.toNat ≤ 10) : stopKind r = .stopByte := by
  rw [stopKind, if_neg (ne_true_of_eq_false hl), if_pos hi]

/-- R124's and R125's cases, by the check of the completed frame. -/
theorem stopKind_of_last (hl : r.lead = false) (hi : r.idx.toNat = 11) :
    stopKind r = if frameOk (completedFrame r) then .stopDispatch else .stopCrcDrop := by
  rw [stopKind, if_neg (ne_true_of_eq_false hl), if_neg (by omega), if_pos hi]

end stopKind

/-- Settles O11: awaiting a start bit, the row selected is EDGE_START. -/
theorem edgeStartBeginsByte : Obligations.EdgeStartBeginsByte :=
  fun _ _ hx ha => exec_row_and_edge (edgeKind_of_await hx ha) (by decide)

/-- Settles O12: outside the window the row selected is EDGE_STRAY. -/
theorem edgeStrayAborts : Obligations.EdgeStrayAborts :=
  fun _ adc hb ht => exec_row_and_edge (adc := adc) (edgeKind_of_stray hb ht) (by decide)

/-- The bits of a byte into which a 1 is set at place `b` (R119). -/
theorem getLsbD_or_one_shiftLeft (v : Byte) {b n : Nat} (hn : n < 8) :
    (v ||| 1#8 <<< b).getLsbD n = (v.getLsbD n || n == b) := by
  have place : b ≤ n ∧ n - b = 0 ↔ n = b := by omega
  rw [BitVec.getLsbD_or, BitVec.getLsbD_shiftLeft, BitVec.getLsbD_one, Bool.eq_iff_iff]
  simp [hn, place]

/-- Settles O13: inside the window, at a bit index of at most 7, the row selected is EDGE_DATA. -/
theorem edgeDataSetsBit : Obligations.EdgeDataSetsBit :=
  fun s adc hw hb =>
    ⟨s.dataBit.rxd.byte, fun _ hn => getLsbD_or_one_shiftLeft s.rxd.byte hn,
      exec_row_and_edge (adc := adc) (edgeKind_of_inWindow hw hb) (by decide)⟩

/-- Settles O14: at this stop bit R120 selects R121. -/
theorem stopOfCleanLeadingByte : Obligations.StopOfCleanLeadingByte :=
  fun _ _ hstop hl hb =>
    exec_stopRow_and_edge ((edgeKind_of_atStop hstop).trans (stopKind_of_clean hl hb)) (by decide) rfl

/-- Settles O15: at this stop bit R120 selects R122. -/
theorem stopOfNonzeroLeadingByte : Obligations.StopOfNonzeroLeadingByte :=
  fun _ _ hstop hl hb =>
    exec_stopRow_and_edge ((edgeKind_of_atStop hstop).trans (stopKind_of_nonzero hl hb)) (by decide) rfl

/-- What holds of three operations holds of each in their list. -/
theorem forall_mem_three {P : Instr → Prop} {i j l : Instr} (h : P i ∧ P j ∧ P l) : ∀ x ∈ [i, j, l], P x := by
  simpa using h

/-- The place of the next payload byte, below the end of the buffer (R123). -/
theorem idx_succ_toNat (hi : r.idx.toNat ≤ 10) : (r.idx + 1).toNat = r.idx.toNat + 1 := by
  rw [BitVec.toNat_add_of_lt (by simp; omega)]
  rfl

/-- Settles O16: at this stop bit R120 selects R123. -/
theorem stopOfPayloadByte : Obligations.StopOfPayloadByte :=
  fun s _ hstop hl hi =>
    ⟨setFrameByte s.rxd.buf s.rxd.idx.toNat s.rxd.byte, fun _ hk => frameByte_setFrameByte _ _ hk,
      s.rxd.idx + 1, idx_succ_toNat hi,
      forall_mem_three
        (exec_stopRow_and_edge ((edgeKind_of_atStop hstop).trans (stopKind_of_idx_le hl hi)) (by decide) rfl)⟩

/-- Settles O17: the frame is the one the buffer completes to, and its check has R120 select R124. -/
theorem lastStopDispatchesFrame : Obligations.LastStopDispatchesFrame := by
  intro s adc f hstop hl hi hbuf hlast ok
  obtain rfl := eq_completedFrame hbuf hlast
  have kind : edgeKind s = .stopDispatch := by
    rw [edgeKind_of_atStop hstop, stopKind_of_last hl hi, if_pos ok]
  exact forall_mem_three (exec_stopRow_and_edge kind (by decide) rfl)

/-- Settles O18: as for a dispatch, but the check has R120 select R125. -/
theorem lastStopDropsBadFrame : Obligations.LastStopDropsBadFrame := by
  intro s adc f hstop hl hi hbuf hlast bad
  obtain rfl := eq_completedFrame hbuf hlast
  have kind : edgeKind s = .stopCrcDrop := by
    rw [edgeKind_of_atStop hstop, stopKind_of_last hl hi, if_neg (ne_true_of_eq_false bad)]
  exact forall_mem_three (exec_stopRow_and_edge kind (by decide) rfl)

/-- Settles O20: in WAIT_SEND the row selected is EDGE_DROP. -/
theorem edgeDroppedWhileSending : Obligations.EdgeDroppedWhileSending :=
  fun _ adc hx => exec_row_and_edge (adc := adc) (edgeKind_of_waitSend hx) (by decide)

/-- Settles O21: the two branches of RX_TIMEOUT. -/
theorem watchdogResets : Obligations.WatchdogResets :=
  fun _ =>
    ⟨fun hr hc => congrArg Host.Outcome.next (if_pos (timeoutDue_iff.2 ⟨hr, hc⟩)),
      fun h => congrArg Host.Outcome.next (if_neg fun due => h (timeoutDue_iff.1 due))⟩

section applies

/-- RXD inside a byte, `t` cycles after its start bit; the reset state elsewhere. -/
def insideByte (lead : Bool) (t : Word) (byte : Byte) (idx : BitVec 4) : State :=
  { State.reset with
    rxd :=
      { State.reset.rxd with
        await := false, lead := lead, busy := true, run := true, cnt := t, byte := byte, idx := idx, gainSel := lead } }

/-- The reset state awaits a leading byte. -/
theorem edgeStartBeginsByte_applies : ∃ t, exec (.edge 612) State.reset = .next t ∧ t.rxd.hg = 612 ∧ t.rxd.cnt = 1 :=
  ⟨_, (edgeStartBeginsByte State.reset 612 (by decide) rfl).2, rfl, rfl⟩

/-- The window's two bounds. -/
theorem edgeStrayAborts_applies :
    (∃ t, exec (.edge 0) (insideByte true 134 3 0) = .next t ∧ t.rxd.run = false)
    ∧ ∃ t, exec (.edge 0) (insideByte true 2555 3 0) = .next t ∧ t.rxd.run = false :=
  ⟨⟨_, (edgeStrayAborts (insideByte true 134 3 0) 0 (by decide) (by decide)).2, rfl⟩,
    ⟨_, (edgeStrayAborts (insideByte true 2555 3 0) 0 (by decide) (by decide)).2, rfl⟩⟩

/-- The last cycle of bit index 7, with bit 0 set before. -/
theorem edgeDataSetsBit_applies :
    ∃ v : Byte, v.getLsbD 0 = true ∧ v.getLsbD 6 = false ∧ v.getLsbD 7 = true
      ∧ ∃ t, exec (.edge 0) (insideByte false 2282 1 0) = .next t ∧ t.rxd.byte = v := by
  obtain ⟨v, bits, _, edge⟩ := edgeDataSetsBit (insideByte false 2282 1 0) 0 (by decide) (by decide)
  exact ⟨v, bits 0 (by decide), bits 6 (by decide), bits 7 (by decide), _, edge, rfl⟩

/-- A stop bit of a leading byte, clean and not. -/
theorem stopOfLeadingByte_applies :
    (∃ t, exec (.edge 388) (insideByte true 2421 0 0) = .next t ∧ t.rxd.lead = false ∧ t.rxd.busy = true)
    ∧ ∃ t, exec (.edge 388) (insideByte true 2421 1 0) = .next t ∧ t.rxd.lead = true ∧ t.rxd.busy = false :=
  ⟨⟨_, (stopOfCleanLeadingByte (insideByte true 2421 0 0) 388 (by decide) rfl rfl).2.2, rfl, rfl⟩,
    ⟨_, (stopOfNonzeroLeadingByte (insideByte true 2421 1 0) 388 (by decide) rfl (by decide)).2.2, rfl, rfl⟩⟩

/-- A payload byte stored at the last place but one. -/
theorem stopOfPayloadByte_applies :
    ∃ t, exec (.edge 0) (insideByte false 2421 0xA5 10) = .next t ∧ frameByte t.rxd.buf 10 = 0xA5
      ∧ frameByte t.rxd.buf 9 = 0 ∧ t.rxd.idx.toNat = 11 := by
  obtain ⟨f, stored, n, next, goes⟩ := stopOfPayloadByte (insideByte false 2421 0xA5 10) 0 (by decide) rfl (by decide)
  exact ⟨_, goes _ (by decide), stored 10 (by decide), stored 9 (by decide), next⟩

/-- The last stop bit of the scenario frame, and of the same frame with another last byte. -/
theorem lastStop_applies :
    (∃ t, exec (.edge 0) lastStopDue = .next t ∧ t.st.flags.rxv = true ∧ t.rxo.frame = completedFrame lastStopDue.rxd)
    ∧ ∃ t, exec (.edge 0) (insideByte false 2421 0xB1 11) = .next t ∧ t.st.flags.rxv = false :=
  ⟨⟨_, lastStopDispatchesFrame lastStopDue 0 (completedFrame lastStopDue.rxd) (by decide) rfl rfl (by decide)
      (by decide) (by decide) _ (by decide), rfl, rfl⟩,
    ⟨_, lastStopDropsBadFrame (insideByte false 2421 0xB1 11) 0 (completedFrame (insideByte false 2421 0xB1 11).rxd)
      (by decide) rfl rfl (by decide) (by decide) (by decide) _ (by decide), rfl⟩⟩

/-- An edge in WAIT_SEND. -/
theorem edgeDroppedWhileSending_applies : exec (.edge 0) (lastStopDue.goTx .waitSend) = .next (lastStopDue.goTx .waitSend) :=
  (edgeDroppedWhileSending _ 0 rfl).2

/-- The watchdog at its compare value and one short of it. -/
theorem watchdogResets_applies :
    (∃ t, exec .rxTimeout (insideByte true 2959 1 0) = .next t ∧ t.rxd.busy = false)
    ∧ exec .rxTimeout (insideByte true 2958 1 0) = .next (insideByte true 2958 1 0) :=
  ⟨⟨_, (watchdogResets (insideByte true 2959 1 0)).1 rfl rfl, rfl⟩, (watchdogResets _).2 (by decide)⟩

end applies

end Sys2Proof.Machine
end

section
/-! The bit index (40_rx_decoder.md R118; 00_scope.md R9, R10): the reciprocal is the rounded-up quotient, so that a whole number of
bit times falls on its own index and the last cycle of the window below index 10. -/

namespace Sys2Proof.Machine

variable {p : Params} {x k : Nat}

/-- The reciprocal times `P_BIT` exceeds 2^16 by less than `P_BIT`. -/
theorem rxM_bounds (hb : 0 < p.bitTime) :
    2 ^ 16 ≤ rxM p * p.bitTime ∧ rxM p * p.bitTime < 2 ^ 16 + p.bitTime := by
  have division := Nat.div_add_mod' (2 ^ 16 + p.bitTime - 1) p.bitTime
  have rest := Nat.mod_lt (2 ^ 16 + p.bitTime - 1) hb
  unfold rxM
  omega

/-- `x` cycles past `RX_LO`, fewer than `k` bit times, the product is below `k` times the reciprocal's bound. -/
theorem product_lt (hb : 0 < p.bitTime) (hx : x < k * p.bitTime) : x * rxM p < k * (2 ^ 16 + p.bitTime) := by
  obtain ⟨_, upper⟩ := rxM_bounds hb
  have reciprocal : 0 < rxM p := Nat.pos_of_mul_pos_right (Nat.lt_of_lt_of_le (by decide) (rxM_bounds hb).1)
  calc x * rxM p
      < k * p.bitTime * rxM p := Nat.mul_lt_mul_of_pos_right hx reciprocal
    _ = k * (rxM p * p.bitTime) := by ring
    _ ≤ k * (2 ^ 16 + p.bitTime) := Nat.mul_le_mul_left k upper.le

/-- Where the product fits, the 32-bit reduction of R118 does nothing. -/
theorem bitIndex_eq_div (h : x * rxM p < 2 ^ 32) : bitIndex p (rxLo p + x) = x * rxM p / 2 ^ 16 := by
  rw [bitIndex, Nat.add_sub_cancel_left, Nat.mod_eq_of_lt h]

/-- Inside the window the index is at most 9. -/
theorem bitIndex_le_nine (hb : 0 < p.bitTime) (hmax : p.bitTime ≤ 6898) (hx : x < 9 * p.bitTime) :
    x * rxM p < 2 ^ 32 ∧ bitIndex p (rxLo p + x) ≤ 9 := by
  have bound := product_lt hb hx
  have fits : x * rxM p < 2 ^ 32 := by omega
  exact ⟨fits, by rw [bitIndex_eq_div fits]; omega⟩

/-- `k` whole bit times past `RX_LO` the index is `k`. -/
theorem bitIndex_mul (hb : 0 < p.bitTime) (hmax : p.bitTime ≤ 6898) (hk : k ≤ 8) :
    bitIndex p (rxLo p + k * p.bitTime) = k := by
  obtain ⟨lower, upper⟩ := rxM_bounds hb
  have product : k * p.bitTime * rxM p = k * (rxM p * p.bitTime) := by ring
  have below : k * 2 ^ 16 ≤ k * (rxM p * p.bitTime) := Nat.mul_le_mul_left k lower
  have above : k * (rxM p * p.bitTime) ≤ k * 2 ^ 16 + 8 * p.bitTime :=
    calc k * (rxM p * p.bitTime)
        ≤ k * (2 ^ 16 + p.bitTime) := Nat.mul_le_mul_left k upper.le
      _ = k * 2 ^ 16 + k * p.bitTime := Nat.mul_add ..
      _ ≤ k * 2 ^ 16 + 8 * p.bitTime := Nat.add_le_add_left (Nat.mul_le_mul_right _ hk) _
  rw [bitIndex_eq_div (by omega), product]
  omega

/-- Settles O23: the bounds of R10 on `P_BIT` are what both parts need. -/
theorem bitIndexInRange : Obligations.BitIndexInRange := by
  intro p legal
  obtain ⟨⟨hmin, hmax⟩, _⟩ := r10_of_paramsLegal legal
  refine ⟨fun t lo hi => ?window, fun k _ hk => bitIndex_mul (by omega) hmax hk⟩
  case window =>
    obtain ⟨x, rfl⟩ := Nat.exists_eq_add_of_le lo.le
    rw [Nat.add_sub_cancel_left]
    exact bitIndex_le_nine (by omega) hmax (by simp only [rxLo, rxHi] at hi; omega)

/-- The last cycle of the window and the last data bit, at the smallest and the largest `P_BIT`. -/
theorem bitIndexInRange_applies :
    ∀ b ∈ [2, 6898], bitIndex { Config.suggested with bitTime := b } (9 * b + b / 2 - 1) ≤ 9
      ∧ bitIndex { Config.suggested with bitTime := b } (b / 2 + 8 * b) = 8 := by
  have inside : ∀ b ∈ [2, 6898], paramsLegal { Config.suggested with bitTime := b } = true
      ∧ b / 2 < 9 * b + b / 2 - 1 ∧ 9 * b + b / 2 - 1 < 9 * b + b / 2 := by
    decide
  intro b hb
  obtain ⟨legal, lo, hi⟩ := inside b hb
  obtain ⟨window, whole⟩ := bitIndexInRange _ legal
  exact ⟨(window _ lo hi).2, whole 8 (by decide) (by decide)⟩

end Sys2Proof.Machine
end

section
/-! RXD's part of a whole cycle (40_rx_decoder.md R112 to R114, R126; 70_reset_and_hazards.md R266 steps 2 to 4): what a cycle without
reset makes of RXD's registers, as a function of its start and its inputs. -/

namespace Sys2Proof.Machine

variable {c : CycleInput} {s s0 t u : State} {adc : Sample} {k : EdgeKind}

section phases

/-- The state after step 1, the host read (R61). -/
def State.afterRead (s : State) (c : CycleInput) : State := s.beginCycle.readOut (hostReadValue s c)

/-- The host read is nothing to the watchdog. -/
theorem timeoutDue_afterRead : timeoutDue s.beginCycle = timeoutDue (s.afterRead c) := rfl

/-- The state after step 2, in which the watchdog may have reset RXD (R112). -/
def State.afterTimeout (s : State) : State := if timeoutDue s then s.rxReset else s

/-- The row that the cycle's edge is; a cycle without an edge does what EDGE_DROP does, nothing. -/
def cycleRow (c : CycleInput) (s : State) : EdgeKind := if c.evt.getLsbD 1 then edgeKind s else .drop

/-- What steps 2 to 4 make of a state, where the edge is of some row (`rxPhase_eq` ties it to the cycle). -/
def State.rxOutcome (s : State) (c : CycleInput) : State :=
  (edgeEffect c.adc (cycleRow c s.afterTimeout) s.afterTimeout).countRx

/-- The timeout writes RXD alone. -/
@[simp] theorem State.afterTimeout_txb (s : State) : s.afterTimeout.txb = s.txb := by
  unfold State.afterTimeout
  split <;> rfl

/-- At the compare value RXD is reset. -/
theorem afterTimeout_of_due (h : timeoutDue s = true) : s.afterTimeout = s.rxReset := if_pos h

/-- Elsewhere nothing happens. -/
theorem afterTimeout_of_not_due (h : timeoutDue s = false) : s.afterTimeout = s := if_neg (ne_true_of_eq_false h)

/-- Step 3: an edge has the effect of its row, and no edge none. -/
theorem runOps_edgeOps (hr : inReset c = false) (hs : cycleRow c s ≠ .stopOutOfRange) :
    runOps (edgeOps c) s = .next (edgeEffect c.adc (cycleRow c s) s) := by
  rw [edgeOps_eq hr]
  unfold cycleRow at hs ⊢
  cases he : c.evt.getLsbD 1 with
  | false => rfl
  | true =>
    rw [he, if_pos rfl] at hs
    simp only [if_true, runOps_cons, (exec_row_and_edge rfl hs).2, andThen_next, runOps_nil]

/-- An edge of no row stops the cycle (log 10). -/
theorem cycleRow_of_runOps (hr : inReset c = false) (h : runOps (edgeOps c) s = .next u) :
    cycleRow c s ≠ .stopOutOfRange := by
  rw [edgeOps_eq hr] at h
  unfold cycleRow
  cases he : c.evt.getLsbD 1 with
  | false => exact nofun
  | true =>
    intro hk
    rw [he, if_pos rfl, runOps_cons, (exec_stop_of_outOfRange hk).2] at h
    cases h

/-- Steps 2 to 4. -/
theorem rxPhase_eq (hr : inReset c = false) (ht : timeoutDue s0 = timeoutDue s)
    (hs : cycleRow c s.afterTimeout ≠ .stopOutOfRange) : rxPhase c s0 s = .next (s.rxOutcome c) := by
  rw [rxPhase, runOps_append, runOps_timeoutOps ht, andThen_next]
  exact congrArg (andThen · _) (runOps_edgeOps hr hs)

/-- Steps 2 to 4 go on only with an edge of some row. -/
theorem rxOutcome_of_rxPhase (hr : inReset c = false) (ht : timeoutDue s0 = timeoutDue s) (h : rxPhase c s0 s = .next u) :
    u = s.rxOutcome c := by
  have go := h
  rw [rxPhase, runOps_append, runOps_timeoutOps ht, andThen_next] at go
  obtain ⟨_, hv, _⟩ := (andThen_eq_next_iff ..).1 go
  rw [rxPhase_eq hr ht (cycleRow_of_runOps hr hv)] at h
  cases h
  rfl

/-- Steps 5 and 6 run operations of TXB and of the host. -/
theorem isTxOp_or_isHostOp_of_mem_txHostPhase {i : Instr} (h : i ∈ levelOps c ++ txOps c s0 ++ writeOps c) :
    isTxOp i = true ∨ isHostOp i = true :=
  (List.mem_append.1 h).imp isTxOp_of_mem_txPhase isHostOp_of_mem_writeOps

/-- Steps 5 and 6 complete. -/
theorem txHostPhase_completes (c : CycleInput) (s0 s : State) : ∃ t, txHostPhase c s0 s = .next t := by
  obtain ⟨t, ht, _⟩ := runOps_completes (P := fun _ => True) (is := levelOps c ++ txOps c s0 ++ writeOps c) (s := s)
    (fun i hi u _ => by
      rcases isTxOp_or_isHostOp_of_mem_txHostPhase hi with h | h
      · exact (execTx_completes h u).imp fun _ hv => ⟨hv, trivial⟩
      · exact (execHost_completes h u).imp fun _ hv => ⟨hv, trivial⟩)
    trivial
  exact ⟨t, ht⟩

/-- Steps 5 and 6 leave RXD alone (R130). -/
theorem txHostPhase_rxd (h : txHostPhase c s0 s = .next t) : t.rxd = s.rxd :=
  runOps_keeps (P := (·.rxd = s.rxd))
    (fun i hi u v keep he => by
      rcases isTxOp_or_isHostOp_of_mem_txHostPhase hi with htx | hhost
      · obtain ⟨hr, _⟩ := execTx_frame htx he
        exact hr.trans keep
      · obtain ⟨hr, _⟩ := execHost_frame hhost he
        exact hr.trans keep)
    rfl h

/-- A reset cycle is its host read and RESET (R261). -/
theorem runCycle_of_inReset (hr : inReset c = true) : runCycle c s.beginCycle = exec .reset (s.afterRead c) := by
  rw [runCycle, runOps_readOps, andThen_next, if_pos hr, events_eq_reset hr]
  rfl

/-- Any other cycle is its host read and R266's steps 2 to 6. -/
theorem runCycle_of_not_inReset (hr : inReset c = false) :
    runCycle c s.beginCycle = andThen (rxPhase c s.beginCycle (s.afterRead c)) (txHostPhase c s.beginCycle) := by
  rw [runCycle, runOps_readOps, andThen_next, if_neg (ne_true_of_eq_false hr)]
  rfl

/-- What a cycle that goes on does to RXD. -/
theorem runCycle_rxd (hr : inReset c = false) (h : runCycle c s.beginCycle = .next t) :
    t.rxd = ((s.afterRead c).rxOutcome c).rxd := by
  rw [runCycle_of_not_inReset hr] at h
  obtain ⟨u, hu, ht⟩ := (andThen_eq_next_iff ..).1 h
  exact (txHostPhase_rxd ht).trans (congrArg State.rxd (rxOutcome_of_rxPhase hr timeoutDue_afterRead hu))

/-- A step whose edge is of some row goes on. -/
theorem step_completes (legal : paramsLegal s.params = true) (hr : inReset s.nextInput = false)
    (hs : cycleRow s.nextInput (s.afterRead s.nextInput).afterTimeout ≠ .stopOutOfRange) : ∃ t, step s = .next t := by
  obtain ⟨w, hw⟩ := txHostPhase_completes s.nextInput s.beginCycle ((s.afterRead s.nextInput).rxOutcome s.nextInput)
  refine ⟨w.endCycle, step_eq_next_iff.2 ⟨legal, w, ?_, rfl⟩⟩
  rw [runCycle_of_not_inReset hr, rxPhase_eq hr timeoutDue_afterRead hs, andThen_next, hw]

/-- What a step without reset does to RXD. -/
theorem step_rxd (h : step s = .next t) (hr : inReset s.nextInput = false) :
    t.rxd = ((s.afterRead s.nextInput).rxOutcome s.nextInput).rxd := by
  obtain ⟨_, w, hw, rfl⟩ := step_eq_next_iff.1 h
  exact w.endCycle_rxd.trans (runCycle_rxd hr hw)

end phases

section timeoutAndEdge

/-- After the watchdog's reset every edge that is not dropped is a start bit (R113). -/
theorem cycleRow_rxReset (hx : s.txb.state ≠ .waitSend) (he : c.evt.getLsbD 1 = true) : cycleRow c s.rxReset = .start := by
  rw [cycleRow, if_pos he]
  exact edgeKind_of_await hx rfl

/-- Settles O9: the edge of such a cycle meets RXD as RxReset left it, and the counter its start bit loaded does not advance. -/
theorem timeoutThenStartBit : Obligations.TimeoutThenStartBit := by
  intro s legal due hx hr he
  have due' : timeoutDue (s.afterRead s.nextInput) = true := due
  have start : cycleRow s.nextInput (s.afterRead s.nextInput).rxReset = .start := cycleRow_rxReset hx he
  obtain ⟨t, ht⟩ := step_completes legal hr (by rw [afterTimeout_of_due due', start]; decide)
  refine ⟨t, ht, ?_⟩
  rw [step_rxd ht hr, State.rxOutcome, afterTimeout_of_due due', start]
  rfl

/-- The watchdog expires in the cycle of an edge with sample 612, beside a tick and a host write. -/
theorem timeoutThenStartBit_applies :
    ∃ t, step ((insideByte true 2959 1 0).withInputs [{ evt := 0x06, adc := 612, rnd := 0, host := some 0x820001 }]) = .next t
      ∧ t.rxd.cnt = 1 ∧ t.rxd.hg = 612 ∧ t.rxd.byte = 0 := by
  obtain ⟨t, ht, rxd⟩ := timeoutThenStartBit
    ((insideByte true 2959 1 0).withInputs [{ evt := 0x06, adc := 612, rnd := 0, host := some 0x820001 }])
    (by decide) (by decide) (by decide) (by decide) (by decide)
  exact ⟨t, ht, by rw [rxd], by rw [rxd]; rfl, by rw [rxd]⟩

end timeoutAndEdge

section counter

/-- The rows that run RxReset (R111, R117, R122, R124, R125). -/
def resetRows : List EdgeKind := [.stray, .stopCollision, .stopDispatch, .stopCrcDrop]

/-- The counter after a row and R126: loaded by a start bit, stopped at 0 by an RxReset, else advanced where it runs. -/
theorem edgeEffect_countRx_cnt (hl : s.cyc.cntLoaded = false) :
    (edgeEffect adc k s).countRx.rxd.cnt =
      if k = .start then 1 else if k ∈ resetRows then 0 else if s.rxd.run = true then s.rxd.cnt + 1 else s.rxd.cnt := by
  rw [State.countRx_rxd]
  cases k with
  | start => simp [edgeEffect]
  | stray | stopCollision | stopDispatch | stopCrcDrop => simp [edgeEffect, resetRows]
  | drop | data | stopLeadOk | stopByte | stopOutOfRange =>
    by_cases hrun : s.rxd.run = true <;> simp [edgeEffect, resetRows, hl, hrun]

/-- An edge is a start bit exactly if it is not dropped and RXD awaits one (R114, R116). -/
theorem edgeKind_eq_start_iff : edgeKind s = .start ↔ s.txb.state ≠ .waitSend ∧ s.rxd.await = true := by
  refine ⟨fun h => ?_, fun ⟨hx, ha⟩ => edgeKind_of_await hx ha⟩
  have noStop : stopKind s.rxd ≠ .start := by
    unfold stopKind
    split_ifs <;> decide
  unfold edgeKind at h
  dsimp only at h
  split_ifs at h with hx ha
  · exact ⟨hx, ha⟩
  · exact absurd h noStop

/-- The cycle's row is not EDGE_DROP only where an edge is taken (R114). -/
theorem cycleRow_eq_iff (hk : k ≠ .drop) :
    cycleRow c s = k ↔ (c.evt.getLsbD 1 = true ∧ s.txb.state ≠ .waitSend) ∧ edgeKind s = k := by
  have sending : edgeKind s = k → s.txb.state ≠ .waitSend := fun h hx => hk (h.symm.trans (edgeKind_of_waitSend hx))
  unfold cycleRow
  cases c.evt.getLsbD 1 with
  | false => simpa using Ne.symm hk
  | true => simpa using sending

/-- The cycle's edge starts a byte. -/
theorem cycleRow_eq_start_iff :
    cycleRow c s = .start ↔ (c.evt.getLsbD 1 = true ∧ s.txb.state ≠ .waitSend) ∧ s.rxd.await = true := by
  rw [cycleRow_eq_iff (by decide), edgeKind_eq_start_iff]
  tauto

/-- The cycle's edge runs RxReset. -/
theorem cycleRow_mem_resetRows_iff :
    cycleRow c s ∈ resetRows ↔ (c.evt.getLsbD 1 = true ∧ s.txb.state ≠ .waitSend) ∧ edgeKind s ∈ resetRows := by
  have noDrop : ∀ k ∈ resetRows, k ≠ .drop := by decide
  constructor
  · intro h
    obtain ⟨taken, hk⟩ := (cycleRow_eq_iff (noDrop _ h)).1 rfl
    exact ⟨taken, hk ▸ h⟩
  · rintro ⟨taken, h⟩
    rwa [(cycleRow_eq_iff (noDrop _ h)).2 ⟨taken, rfl⟩]

/-- The counter after a step in which the watchdog has not expired. -/
theorem step_cnt_of_not_due (h : step s = .next t) (hr : inReset s.nextInput = false) (due : timeoutDue s = false) :
    t.rxd.cnt =
      if cycleRow s.nextInput s = .start then 1 else if cycleRow s.nextInput s ∈ resetRows then 0
      else if s.rxd.run = true then s.rxd.cnt + 1 else s.rxd.cnt := by
  have due' : timeoutDue (s.afterRead s.nextInput) = false := due
  rw [step_rxd h hr, State.rxOutcome, afterTimeout_of_not_due due']
  exact edgeEffect_countRx_cnt rfl

/-- The counter after a step in which it has: 0, but for the start bit of R113. -/
theorem step_cnt_of_due (h : step s = .next t) (hr : inReset s.nextInput = false) (due : timeoutDue s = true) :
    t.rxd.cnt = if cycleRow s.nextInput s.rxReset = .start then 1 else 0 := by
  have due' : timeoutDue (s.afterRead s.nextInput) = true := due
  rw [step_rxd h hr, State.rxOutcome, afterTimeout_of_due due']
  refine (edgeEffect_countRx_cnt rfl).trans ?_
  simp only [State.rxReset_rxd, Bool.false_eq_true, if_false, ite_self]
  rfl

/-- Settles O22: with a timeout an edge that is taken is a start bit; without one the row of the cycle's edge decides. -/
theorem counterAdvances : Obligations.CounterAdvances := by
  intro s t h hr taken started wasReset
  cases due : timeoutDue s with
  | true =>
    have count := step_cnt_of_due h hr due
    have start : cycleRow s.nextInput s.rxReset = .start ↔ taken := cycleRow_eq_start_iff.trans (and_iff_left rfl)
    refine ⟨fun ⟨edge, _⟩ => ?_, fun notStarted _ => ?_, fun _ notReset => absurd (.inl due) notReset⟩
    · rw [count, if_pos (start.2 edge)]
    · rw [count, if_neg fun row => notStarted ⟨start.1 row, .inl due⟩]
  | false =>
    have count := step_cnt_of_not_due h hr due
    have start : started ↔ cycleRow s.nextInput s = .start :=
      (and_congr_right fun _ => or_iff_right (ne_true_of_eq_false due)).trans cycleRow_eq_start_iff.symm
    have stops : wasReset ↔ cycleRow s.nextInput s ∈ resetRows :=
      (or_iff_right (ne_true_of_eq_false due)).trans cycleRow_mem_resetRows_iff.symm
    rw [start, stops]
    exact ⟨fun hs => by rw [count, if_pos hs], fun hs hreset => by rw [count, if_neg hs, if_pos hreset],
      fun hs hreset => by rw [count, if_neg hs, if_neg hreset]⟩

/-- A timeout with an edge, a timeout alone, and a clean leading byte's stop bit. -/
theorem counterAdvances_applies :
    (∃ t, step ((insideByte true 2959 1 0).withInputs [eventInput 0x02 0 0]) = .next t ∧ t.rxd.cnt = 1)
    ∧ (∃ t, step ((insideByte true 2959 1 0).withInputs [eventInput 0x00 0 0]) = .next t ∧ t.rxd.cnt = 0)
    ∧ ∃ t, step ((insideByte true 2421 0 0).withInputs [eventInput 0x02 0 0]) = .next t ∧ t.rxd.cnt = 2422 := by
  have both : step ((insideByte true 2959 1 0).withInputs [eventInput 0x02 0 0]) = .next _ := rfl
  have timeout : step ((insideByte true 2959 1 0).withInputs [eventInput 0x00 0 0]) = .next _ := rfl
  have stopBit : step ((insideByte true 2421 0 0).withInputs [eventInput 0x02 0 0]) = .next _ := rfl
  exact ⟨⟨_, both, (counterAdvances _ _ both rfl).1 (by decide)⟩,
    ⟨_, timeout, (counterAdvances _ _ timeout rfl).2.1 (by decide) (by decide)⟩,
    ⟨_, stopBit, (counterAdvances _ _ stopBit rfl).2.2 (by decide) (by decide)⟩⟩

end counter

section sending

/-- In WAIT_SEND steps 2 to 4 are the timeout and the counter, with or without an edge (R114). -/
theorem rxPhase_of_waitSend (hr : inReset c = false) (ht : timeoutDue s0 = timeoutDue s) (hx : s.txb.state = .waitSend) :
    rxPhase c s0 s = .next s.afterTimeout.countRx := by
  have row : cycleRow c s.afterTimeout = .drop := by
    rw [cycleRow, edgeKind_of_waitSend (by rw [State.afterTimeout_txb, hx]), ite_self]
  rw [rxPhase_eq hr ht (by rw [row]; decide), State.rxOutcome, row]
  rfl

/-- The inputs with the edge inverted and another sample. -/
def flipEdge (adc : Sample) (c : CycleInput) : CycleInput := { c with evt := c.evt ^^^ 0x02, adc := adc }

/-- Inverting the edge leaves the other events. -/
theorem flipEdge_getLsbD {n : Nat} (hn : n ≠ 1) : (flipEdge adc c).evt.getLsbD n = c.evt.getLsbD n := by
  have two : (0x02 : Byte) = BitVec.twoPow 8 1 := rfl
  rw [flipEdge, two, BitVec.getLsbD_xor, BitVec.getLsbD_twoPow]
  simp [Ne.symm hn]

/-- In WAIT_SEND steps 5 and 6 do not read the edge. -/
theorem txHostPhase_flipEdge (hr : inReset c = false) (hx : s0.txb.state = .waitSend) :
    txHostPhase (flipEdge adc c) s0 = txHostPhase c s0 := by
  have hr' : inReset (flipEdge adc c) = false := (flipEdge_getLsbD (by decide)).trans hr
  have level : levelOps (flipEdge adc c) = levelOps c := by
    rw [levelOps_eq hr, levelOps_eq hr', flipEdge_getLsbD (by decide)]
  have operation : txOperation s0 (flipEdge adc c) = txOperation s0 c := by
    unfold txOperation
    rw [hx]
    simp only [flipEdge_getLsbD (c := c) (adc := adc) (n := 5) (by decide), flipEdge_getLsbD (n := 6) (by decide)]
    rfl
  funext s
  rw [txHostPhase, txHostPhase, level, txOps_eq hr, txOps_eq hr', operation]
  rfl

/-- A cycle that starts in WAIT_SEND does not read the edge. -/
theorem runCycle_flipEdge (hx : s.txb.state = .waitSend) :
    runCycle (flipEdge adc c) s.beginCycle = runCycle c s.beginCycle := by
  have reset : inReset (flipEdge adc c) = inReset c := flipEdge_getLsbD (by decide)
  cases hr : inReset c with
  | true => rw [runCycle_of_inReset hr, runCycle_of_inReset (reset.trans hr)]; rfl
  | false =>
    rw [runCycle_of_not_inReset hr, runCycle_of_not_inReset (reset.trans hr), rxPhase_of_waitSend hr timeoutDue_afterRead hx,
      rxPhase_of_waitSend (reset.trans hr) timeoutDue_afterRead hx, txHostPhase_flipEdge (s0 := s.beginCycle) hr hx]
    rfl

/-- Settles O53: of a cycle's operations only RXD's read the edge, and in WAIT_SEND they drop it. -/
theorem edgesInvisibleWhileSending : Obligations.EdgesInvisibleWhileSending :=
  fun s c _ rest hx => step_withInputs_congr (runCycle_flipEdge (s := s.withInputs (c :: rest)) hx)

/-- An edge at the last stop bit of a good frame, while sending, and none. -/
theorem edgesInvisibleWhileSending_applies (adc : Sample) :
    step ((lastStopDue.goTx .waitSend).withInputs [eventInput 0x60 0 0])
      = step ((lastStopDue.goTx .waitSend).withInputs [eventInput 0x62 adc 0]) :=
  edgesInvisibleWhileSending _ _ adc [] rfl

end sending

end Sys2Proof.Machine
end

section
/-! Every step keeps a good state good (10_state.md R23; 40_rx_decoder.md R127, R128; 41_tx_scheduler.md R141; 60_exceptions.md R236):
the invariant unit by unit, each through the operations of one cycle. -/

namespace Sys2Proof.Machine

variable {c : CycleInput} {i : Instr} {s t : State} {adc : Sample} {k : EdgeKind}

/-- What holds after the host read and is kept by every operation and by the counter holds at the end of a cycle. -/
theorem runCycle_keeps {P : State → Prop} (start : P (s.afterRead c)) (op : ∀ i u v, P u → exec i u = .next v → P v)
    (count : ∀ u, P u → P u.countRx) (h : runCycle c s.beginCycle = .next t) : P t := by
  have ops {is : List Instr} {u v : State} (hu : P u) (h : runOps is u = .next v) : P v :=
    runOps_keeps (fun i _ => op i) hu h
  rcases runCycle_cases h with hreset | ⟨u, v, hu, hv, ht⟩
  · exact op _ _ _ start hreset
  · exact ops (ops (count u (ops start hu)) hv) ht

section rxd

/-- RXD between RX_TIMEOUT and the counter of a cycle: good, and with room for the count that R126 is to make. -/
structure Receiving (s : State) : Prop where
  rxd : RxdInv s.params s.rxd
  room : s.rxd.run = true → s.cyc.cntLoaded = false → s.rxd.cnt.toNat < s.params.timeout

/-- RxReset leaves RXD good, whatever it was (R111). -/
theorem receiving_of_rxReset (h : t.rxd = s.rxReset.rxd) : Receiving t where
  rxd := h ▸
    { busy := rfl
      run := rfl
      stopped := fun _ => rfl
      counting := nofun
      bounded := nofun
      idx := Nat.zero_le _
      gain := rfl }
  room := fun hr => by
    rw [h] at hr
    cases hr

/-- RX_TIMEOUT makes the room: a counter at `P_TIMEOUT` stops (R112). -/
theorem receiving_afterTimeout (inv : RxdInv s.params s.rxd) : Receiving s.afterTimeout := by
  cases due : timeoutDue s with
  | true => exact afterTimeout_of_due due ▸ receiving_of_rxReset (s := s) rfl
  | false =>
    rw [afterTimeout_of_not_due due]
    refine ⟨inv, fun hr _ => Nat.lt_of_le_of_ne (inv.bounded hr) fun hc => ?_⟩
    exact Bool.false_ne_true (due.symm.trans (timeoutDue_iff.2 ⟨hr, hc⟩))

/-- A start bit begins a byte, its counter at 1 (R116). -/
theorem Receiving.startBit (r : Receiving s) (ht : 1 ≤ s.params.timeout) : Receiving (s.startBit adc) where
  rxd :=
    { busy := rfl
      run := rfl
      stopped := nofun
      counting := fun _ => Nat.le_refl 1
      bounded := fun _ => ht
      idx := r.rxd.idx
      gain := by
        rw [State.startBit_rxd]
        cases hl : s.rxd.lead with
        | true => rfl
        | false => simpa [hl] using r.rxd.gain }
  room := nofun

/-- Inside a byte the receiver is busy and the counter runs (R128). -/
theorem RxdInv.inByte {p : Params} {r : Rxd} (inv : RxdInv p r) (ha : r.await = false) :
    r.busy = true ∧ r.run = true ∧ r.gainSel = r.lead := by
  obtain ⟨hb, hr, hg⟩ := And.intro inv.busy (And.intro inv.run inv.gain)
  rw [ha] at hb hr hg
  exact ⟨hb, hr, hg.trans (Bool.and_true _)⟩

/-- A data bit changes the byte alone (R119). -/
theorem Receiving.dataBit (r : Receiving s) (ha : s.rxd.await = false) : Receiving s.dataBit where
  rxd := { r.rxd with busy := (r.rxd.inByte ha).1.symm.trans r.rxd.busy }
  room := r.room

/-- The stop bit of a clean leading byte goes on to the payload (R121). -/
theorem Receiving.leadDone (r : Receiving s) (ha : s.rxd.await = false) :
    Receiving (s.stopBit.sampleLow adc).leadDone where
  rxd :=
    { r.rxd with
      busy := rfl
      run := (r.rxd.inByte ha).2.1
      idx := Nat.zero_le _
      gain := rfl }
  room := r.room

/-- The stop bit of a payload byte goes on to the next one (R123). -/
theorem Receiving.storeByte (r : Receiving s) (ha : s.rxd.await = false) (hl : s.rxd.lead = false)
    (hi : s.rxd.idx.toNat ≤ 10) : Receiving s.stopBit.storeByte where
  rxd :=
    { r.rxd with
      busy := by
        show true = !(true && s.rxd.lead)
        rw [hl]
        rfl
      run := by
        show s.rxd.run = !(true && s.rxd.lead)
        rw [(r.rxd.inByte ha).2.1, hl]
        rfl
      idx := by
        show (s.rxd.idx + 1).toNat ≤ 11
        rw [idx_succ_toNat hi]
        omega
      gain := by
        show s.rxd.gainSel = (s.rxd.lead && !true)
        rw [(r.rxd.inByte ha).2.2, hl]
        rfl }
  room := r.room

/-- A row that is neither dropped nor a start bit is of an edge inside a byte (R114, R116). -/
theorem await_of_edgeKind (hk : edgeKind s = k) (hd : k ≠ .drop) (hs : k ≠ .start) : s.rxd.await = false := by
  refine Bool.eq_false_of_not_eq_true fun ha => ?_
  by_cases hx : s.txb.state = .waitSend
  · exact hd (hk.symm.trans (edgeKind_of_waitSend hx))
  · exact hs (hk.symm.trans (edgeKind_of_await hx ha))

/-- What R123's row asks of the state (R120). -/
theorem stopByte_of_edgeKind (hk : edgeKind s = .stopByte) : s.rxd.lead = false ∧ s.rxd.idx.toNat ≤ 10 := by
  have stop : stopKind s.rxd = .stopByte := by
    unfold edgeKind at hk
    dsimp only at hk
    split_ifs at hk
    exact hk
  unfold stopKind at stop
  split_ifs at stop with hl _ hi
  exact ⟨Bool.eq_false_of_not_eq_true hl, hi⟩

/-- The row the state selects keeps RXD good (R114 to R125). -/
theorem Receiving.edgeEffect (r : Receiving s) (ht : 1 ≤ s.params.timeout) (hk : edgeKind s = k) :
    Receiving (edgeEffect adc k s) := by
  cases k with
  | drop | stopOutOfRange => exact r
  | start => exact r.startBit ht
  | data => exact r.dataBit (await_of_edgeKind hk (by decide) (by decide))
  | stopLeadOk => exact r.leadDone (await_of_edgeKind hk (by decide) (by decide))
  | stopByte =>
    obtain ⟨hl, hi⟩ := stopByte_of_edgeKind hk
    exact r.storeByte (await_of_edgeKind hk (by decide) (by decide)) hl hi
  | stray => exact receiving_of_rxReset (s := s.takeEdge) rfl
  | stopCollision => exact receiving_of_rxReset (s := s.stopBit.sampleLow adc) rfl
  | stopDispatch | stopCrcDrop => exact receiving_of_rxReset (s := s.stopBit.storeLast) rfl

/-- The counter takes the room and stays in its 16 bits (R126). -/
theorem Receiving.countRx (r : Receiving s) (ht : s.params.timeout ≤ 65535) : RxdInv s.params s.countRx.rxd := by
  rw [State.countRx_rxd]
  split
  case isFalse => exact r.rxd
  case isTrue counts =>
    obtain ⟨hr, hl⟩ := Bool.and_eq_true_iff.1 counts
    have room := r.room hr (Bool.not_eq_true' _ ▸ hl)
    have next : (s.rxd.cnt + 1).toNat = s.rxd.cnt.toNat + 1 := BitVec.toNat_add_of_lt (by simp; omega)
    exact
      { r.rxd with
        stopped := fun hstop => absurd (hr.symm.trans hstop) Bool.true_eq_false.mp
        counting := fun _ => by simp only [next]; omega
        bounded := fun _ => by simp only [next]; omega }

/-- Steps 2 to 4 of a cycle keep RXD good. -/
theorem rxdInv_rxOutcome (legal : paramsLegal s.params = true) (inv : RxdInv s.params s.rxd) :
    RxdInv s.params (s.rxOutcome c).rxd := by
  obtain ⟨_, ⟨tmin, tmax⟩, _⟩ := r10_of_paramsLegal legal
  have params : s.afterTimeout.params = s.params := by
    unfold State.afterTimeout
    split <;> rfl
  have start := receiving_afterTimeout inv
  have edge : Receiving (edgeEffect c.adc (cycleRow c s.afterTimeout) s.afterTimeout) := by
    unfold cycleRow
    split
    · exact start.edgeEffect (params ▸ tmin) rfl
    · exact start
  have params' : (edgeEffect c.adc (cycleRow c s.afterTimeout) s.afterTimeout).params = s.params := by
    rw [← params]
    cases cycleRow c s.afterTimeout <;> rfl
  exact params' ▸ edge.countRx (params' ▸ tmax)

/-- A cycle keeps RXD good. -/
theorem runCycle_rxdInv (legal : paramsLegal s.params = true) (inv : RxdInv s.params s.rxd)
    (h : runCycle c s.beginCycle = .next t) : RxdInv s.params t.rxd := by
  cases hr : inReset c with
  | true =>
    rw [runCycle_of_inReset hr] at h
    cases h
    exact (initial_inv legal).rxd
  | false =>
    rw [runCycle_rxd hr h]
    exact rxdInv_rxOutcome (s := s.afterRead c) legal inv

end rxd

section txb

/-- A counted tick stays inside the interval (R141). -/
theorem TxbInv.countTick (inv : TxbInv s.txb) (hs : s.txb.state = .idle) (hd : ¬compareDue s = true) :
    TxbInv s.countTick.txb where
  count := by
    have below : s.txb.cnt.toNat < s.txb.inc.toNat :=
      Nat.lt_of_le_of_ne inv.count fun he => hd (compareDue_iff.2 ⟨hs, BitVec.eq_of_toNat_eq he⟩)
    show (s.txb.cnt + 1).toNat ≤ s.txb.inc.toNat
    rw [BitVec.toNat_add_of_lt (Nat.lt_of_le_of_lt below s.txb.inc.isLt)]
    exact below
  waiting := fun hne => absurd hs hne

/-- TX_COMPARE starts an interval (R142). -/
theorem TxbInv.execTxCompare (inv : TxbInv s.txb) (h : execTxCompare s = .next t) : TxbInv t.txb := by
  cases h
  split
  · exact ⟨Nat.zero_le _, fun _ => rfl⟩
  · exact inv

/-- TXB's operations keep TXB good: outside IDLE the counter stays at 0 (R145 to R149). -/
theorem TxbInv.execTx (inv : TxbInv s.txb) (hi : isTxOp i = true) (h : exec i s = .next t) : TxbInv t.txb := by
  cases i with
  | tick =>
    have h' : execTick s = .next t := h
    unfold execTick at h'
    split_ifs at h' with hs hd
    · exact inv.execTxCompare h'
    · cases h'; exact inv.countTick hs hd
    · cases h'; exact inv
  | txCompare => exact inv.execTxCompare h
  | runEligible => cases h; exact inv
  | rspFrame =>
    cases h
    split
    case isTrue hs => exact ⟨inv.count, fun _ => inv.waiting (by rw [hs]; decide)⟩
    case isFalse => exact inv
  | rspNone | doneOk =>
    cases h
    split
    · exact ⟨inv.count, fun hne => absurd rfl hne⟩
    · exact inv
  | doneFail rnd =>
    cases h
    split
    case isTrue hs =>
      have zero : s.txb.cnt = 0 := inv.waiting (by rw [hs]; decide)
      exact ⟨by simp [zero], fun hne => absurd rfl hne⟩
    case isFalse => exact inv
  | _ => cases hi

/-- Every operation keeps TXB good. -/
theorem TxbInv.exec (inv : TxbInv s.txb) (h : exec i s = .next t) : TxbInv t.txb := by
  rcases instr_unit i with rfl | hi | hi | hi
  · cases h
    exact ⟨Nat.zero_le _, fun _ => rfl⟩
  · obtain ⟨_, _, hx, _⟩ := execHost_frame hi h
    rw [hx]
    exact ⟨inv.count, inv.waiting⟩
  · exact inv.execTx hi h
  · exact (execRx_frame hi h).txb ▸ inv

end txb

section status

/-- Within a cycle a pulse comes with its flag and with its cause among those raised, which keeps the flag from the host's clear
(R29, R233). -/
structure PulsesFlagged (s : State) : Prop where
  dispatch : s.st.dispPulse = true → s.st.flags.rxv = true ∧ s.cyc.raised.rxv = true
  success : s.st.txsPulse = true → s.st.flags.txs = true ∧ s.cyc.raised.txs = true

/-- A raised cause clears no flag (R230). -/
theorem PulsesFlagged.raiseCause (p : PulsesFlagged s) (k : Cause) : PulsesFlagged (s.raiseCause k) := by
  cases k with
  | frameDispatched => exact ⟨fun _ => ⟨rfl, rfl⟩, p.success⟩
  | transmitSuccess => exact ⟨p.dispatch, fun _ => ⟨rfl, rfl⟩⟩
  | estimatorError | commandError => exact ⟨p.dispatch, p.success⟩

/-- The W1C write spares the causes raised in the cycle (R212, R233). -/
theorem PulsesFlagged.clearCauses (p : PulsesFlagged s) (clr : BitVec 4) : PulsesFlagged (s.clearCauses clr) where
  dispatch := fun hp => ⟨if_pos (p.dispatch hp).2, (p.dispatch hp).2⟩
  success := fun hp => ⟨if_pos (p.success hp).2, (p.success hp).2⟩

/-- An estimate raises no pulse and clears no flag (R189). -/
theorem PulsesFlagged.putEstimate (p : PulsesFlagged s) (r : Option Byte) : PulsesFlagged (s.putEstimate r) := by
  cases r with
  | some d => exact ⟨p.dispatch, p.success⟩
  | none => exact PulsesFlagged.raiseCause (s := s.drawDist) ⟨p.dispatch, p.success⟩ _

/-- The host raises no pulse. -/
theorem PulsesFlagged.execHost (p : PulsesFlagged s) (hi : isHostOp i = true) (h : exec i s = .next t) :
    PulsesFlagged t := by
  cases i with
  | cmdRsv | wrRo | wrRsv => cases h; exact p.raiseCause _
  | wrStatus clr => cases h; exact p.clearCauses clr
  | distEst | distEstRx => cases h; exact p.putEstimate _
  | _ => first | (cases hi; done) | (cases h; exact ⟨p.dispatch, p.success⟩)

/-- TXB raises `txs_pulse` with its cause (R147). -/
theorem PulsesFlagged.execTx (p : PulsesFlagged s) (hi : isTxOp i = true) (h : exec i s = .next t) :
    PulsesFlagged t := by
  cases i with
  | tick =>
    have h' : execTick s = .next t := h
    unfold execTick execTxCompare at h'
    split_ifs at h'
    all_goals cases h'; exact ⟨p.dispatch, p.success⟩
  | doneOk =>
    cases h
    split
    · exact ⟨p.dispatch, fun _ => ⟨rfl, rfl⟩⟩
    · exact p
  | txCompare | rspFrame | rspNone | doneFail =>
    cases h
    split
    all_goals exact ⟨p.dispatch, p.success⟩
  | runEligible => cases h; exact ⟨p.dispatch, p.success⟩
  | _ => cases hi

/-- An edge that goes on has the effect of the row the state selects (R114). -/
theorem edgeEffect_of_exec_edge (h : exec (.edge adc) s = .next t) : t = edgeEffect adc (edgeKind s) s := by
  by_cases hk : edgeKind s = .stopOutOfRange
  · rw [(exec_stop_of_outOfRange hk).2] at h
    cases h
  · rw [(exec_row_and_edge rfl hk).2] at h
    cases h
    rfl

/-- RXD raises `disp_pulse` with its cause (R124). -/
theorem PulsesFlagged.execRx (p : PulsesFlagged s) (hi : isRxOp i = true) (h : exec i s = .next t) :
    PulsesFlagged t := by
  rcases execRx_cases hi h with rfl | rfl | ⟨adc, he⟩
  · exact p
  · exact ⟨p.dispatch, p.success⟩
  · rw [edgeEffect_of_exec_edge he]
    cases edgeKind s with
    | stopDispatch => exact ⟨fun _ => ⟨rfl, rfl⟩, p.success⟩
    | _ => exact ⟨p.dispatch, p.success⟩

/-- Every operation keeps the pulses flagged; RESET lets both fall. -/
theorem PulsesFlagged.exec (p : PulsesFlagged s) (h : exec i s = .next t) : PulsesFlagged t := by
  rcases instr_unit i with rfl | hi | hi | hi
  · cases h
    exact ⟨nofun, nofun⟩
  · exact p.execHost hi h
  · exact p.execTx hi h
  · exact p.execRx hi h

/-- In WAIT_SEND RXD's operations leave the status alone: an edge is dropped (R114). -/
theorem execRx_st_of_waitSend (hi : isRxOp i = true) (hx : s.txb.state = .waitSend) (h : exec i s = .next t) :
    t.st = s.st := by
  rcases execRx_cases hi h with rfl | rfl | ⟨adc, he⟩
  · rfl
  · rfl
  · rw [edgeEffect_of_exec_edge he, edgeKind_of_waitSend hx]
    rfl

/-- RXD does not raise `txs_pulse`. -/
theorem execRx_txsPulse (hi : isRxOp i = true) (h : exec i s = .next t) : t.st.txsPulse = s.st.txsPulse := by
  rcases execRx_cases hi h with rfl | rfl | ⟨adc, he⟩
  · rfl
  · rfl
  · rw [edgeEffect_of_exec_edge he]
    cases edgeKind s <;> rfl

/-- Of TXB's operations DONE_OK alone raises `txs_pulse` (R147). -/
theorem execTx_txsPulse (hi : isTxOp i = true) (hne : i ≠ .doneOk) (h : exec i s = .next t) :
    t.st.txsPulse = s.st.txsPulse := by
  cases i with
  | tick =>
    have h' : execTick s = .next t := h
    unfold execTick execTxCompare at h'
    split_ifs at h'
    all_goals cases h'; rfl
  | doneOk => exact absurd rfl hne
  | txCompare | rspFrame | rspNone | doneFail =>
    cases h
    split
    all_goals rfl
  | runEligible => cases h; rfl
  | _ => cases hi

/-- DONE_OK runs only in a cycle that starts in WAIT_SEND (R97 item 3). -/
theorem waitSend_of_doneOk_mem (h : .doneOk ∈ levelOps c ++ txOps c s) : s.txb.state = .waitSend := by
  rcases List.mem_append.1 h with hl | hx
  · cases (List.mem_filter.1 hl).2
  · obtain ⟨j, _, hj⟩ := List.mem_filterMap.1 hx
    unfold selectTx at hj
    split at hj
    case h_4 hs _ => exact hs
    case h_1 => split at hj <;> cases hj
    all_goals cases hj

/-- A cycle that starts in WAIT_SEND dispatches no frame (R114, R236). -/
theorem runCycle_dispPulse_of_waitSend (hx : s.txb.state = .waitSend) (h : runCycle c s.beginCycle = .next t) :
    t.st.dispPulse = false := by
  rcases runCycle_cases h with hreset | ⟨u, v, hu, hv, ht⟩
  · cases hreset
    rfl
  · have received : u.txb.state = .waitSend ∧ u.st.dispPulse = false :=
      runOps_keeps (P := fun u => u.txb.state = .waitSend ∧ u.st.dispPulse = false)
        (fun i hi u v keep he =>
          have rx := isRxOp_of_mem_rxPhase hi
          ⟨(execRx_frame rx he).txb ▸ keep.1, execRx_st_of_waitSend rx keep.1 he ▸ keep.2⟩)
        (s := s.afterRead c) ⟨hx, rfl⟩ hu
    have sent : v.st.dispPulse = false :=
      runOps_keeps (P := (·.st.dispPulse = false))
        (fun i hi u v keep he =>
          have ⟨_, _, _, _, _, _, hd, _⟩ := execTx_frame (isTxOp_of_mem_txPhase hi) he
          hd.trans keep)
        (u.countRx_st ▸ received.2) hv
    exact runOps_keeps (P := (·.st.dispPulse = false))
      (fun i hi u v keep he =>
        have ⟨_, _, _, hd, _⟩ := execHost_frame (isHostOp_of_mem_writeOps hi) he
        hd.trans keep)
      sent ht

/-- A cycle that starts elsewhere completes no send (R147). -/
theorem runCycle_txsPulse_of_ne_waitSend (hx : s.txb.state ≠ .waitSend) (h : runCycle c s.beginCycle = .next t) :
    t.st.txsPulse = false := by
  rcases runCycle_cases h with hreset | ⟨u, v, hu, hv, ht⟩
  · cases hreset
    rfl
  · have received : u.st.txsPulse = false :=
      runOps_keeps (P := (·.st.txsPulse = false))
        (fun i hi u v keep he => (execRx_txsPulse (isRxOp_of_mem_rxPhase hi) he).trans keep) rfl hu
    have sent : v.st.txsPulse = false :=
      runOps_keeps (P := (·.st.txsPulse = false))
        (fun i hi u v keep he =>
          have hne : i ≠ .doneOk := fun hd => hx (waitSend_of_doneOk_mem (hd ▸ hi))
          (execTx_txsPulse (isTxOp_of_mem_txPhase hi) hne he).trans keep)
        (u.countRx_st ▸ received) hv
    exact runOps_keeps (P := (·.st.txsPulse = false))
      (fun i hi u v keep he =>
        have ⟨_, _, _, _, hs, _⟩ := execHost_frame (isHostOp_of_mem_writeOps hi) he
        hs.trans keep)
      sent ht

/-- A cycle leaves the pulses with their flags, and never both (R29, R236). -/
theorem runCycle_statusInv (h : runCycle c s.beginCycle = .next t) : StatusInv t.st := by
  have flagged : PulsesFlagged t :=
    runCycle_keeps (P := PulsesFlagged) ⟨nofun, nofun⟩ (fun _ _ _ p he => p.exec he)
      (fun u p => ⟨u.countRx_st ▸ u.countRx_cyc ▸ p.dispatch, u.countRx_st ▸ u.countRx_cyc ▸ p.success⟩) h
  refine ⟨fun hp => (flagged.dispatch hp).1, fun hp => (flagged.success hp).1, fun ⟨hd, hs⟩ => ?_⟩
  by_cases hx : s.txb.state = .waitSend
  · exact Bool.false_ne_true ((runCycle_dispPulse_of_waitSend hx h).symm.trans hd)
  · exact Bool.false_ne_true ((runCycle_txsPulse_of_ne_waitSend hx h).symm.trans hs)

end status

/-- Settles O58: a cycle keeps each unit's invariant, and its end drops what it remembered. -/
theorem stepKeepsGoodStates : Obligations.StepKeepsGoodStates := by
  intro s t inv h
  obtain ⟨legal, w, hw, rfl⟩ := step_eq_next_iff.1 h
  have params : w.params = s.params :=
    runCycle_keeps (P := (·.params = s.params)) rfl (fun _ _ _ keep he => (exec_params he).trans keep)
      (fun u keep => u.countRx_params.trans keep) hw
  have rxd : RxdInv s.params w.rxd := runCycle_rxdInv legal inv.rxd hw
  have txb : TxbInv w.txb :=
    runCycle_keeps (P := fun u => TxbInv u.txb) inv.txb (fun _ _ _ keep he => keep.exec he)
      (fun u keep => u.countRx_txb ▸ keep) hw
  have status : StatusInv w.st := runCycle_statusInv hw
  exact
    { params := params ▸ legal
      rxd := params ▸ rxd
      txb := txb
      st := status
      cyc := rfl }

/-- From the reset state, a cycle with an edge, a tick and a host write: a leading byte has begun. -/
theorem stepKeepsGoodStates_applies :
    ∃ t, step (State.reset.withInputs [{ evt := 0x06, adc := 612, rnd := 0, host := some 0x820001 }]) = .next t
      ∧ t.Inv ∧ t.rxd.run = true := by
  have good : (State.reset.withInputs [{ evt := 0x06, adc := 612, rnd := 0, host := some 0x820001 }]).Inv :=
    have reset := resetStateIsGood.1
    ⟨reset.params, reset.rxd, reset.txb, reset.st, reset.cyc⟩
  have goes : step (State.reset.withInputs [{ evt := 0x06, adc := 612, rnd := 0, host := some 0x820001 }]) = .next _ := rfl
  exact ⟨_, goes, stepKeepsGoodStates _ _ good goes, rfl⟩

end Sys2Proof.Machine
end

section
/-! TXB's operations one by one (41_tx_scheduler.md R141 to R149): what each does in the state it applies to, and that it does
nothing elsewhere. -/

namespace Sys2Proof.Machine

variable {s : State}

section tick

/-- What a tick makes of a state in IDLE (`exec_tick_of_idle` ties it to the operation). -/
def State.takeTick (s : State) : State := if s.txb.cnt = s.txb.inc then s.compare else s.countTick

/-- The end of an interval is the compare event (R141). -/
theorem takeTick_of_end (h : s.txb.cnt = s.txb.inc) : s.takeTick = s.compare := if_pos h

/-- Inside an interval the tick is counted (R141). -/
theorem takeTick_of_inside (h : s.txb.cnt ≠ s.txb.inc) : s.takeTick = s.countTick := if_neg h

/-- The row TX_COMPARE where its condition holds (R142). -/
theorem exec_txCompare_of_end (hs : s.txb.state = .idle) (h : s.txb.cnt = s.txb.inc) :
    exec .txCompare s = .next s.compare :=
  congrArg Host.Outcome.next (if_pos (compareDue_iff.2 ⟨hs, h⟩))

/-- In IDLE a tick is counted or ends the interval (R141). -/
theorem exec_tick_of_idle (hs : s.txb.state = .idle) : exec .tick s = .next s.takeTick := by
  show execTick s = _
  rw [execTick, if_pos hs]
  by_cases h : s.txb.cnt = s.txb.inc
  · rw [if_pos (compareDue_iff.2 ⟨hs, h⟩), takeTick_of_end h]
    exact exec_txCompare_of_end hs h
  · rw [if_neg fun due => h (compareDue_iff.1 due).2, takeTick_of_inside h]

/-- Outside IDLE there is no tick and no compare (R149). -/
theorem exec_tick_and_txCompare_of_ne_idle (hs : s.txb.state ≠ .idle) :
    exec .tick s = .next s ∧ exec .txCompare s = .next s :=
  ⟨if_neg hs, congrArg Host.Outcome.next (if_neg fun due => hs (compareDue_iff.1 due).1)⟩

/-- Settles O36: the two cases of a tick in IDLE. -/
theorem tickCountsInIdle : Obligations.TickCountsInIdle := by
  refine fun s hs => ⟨fun inside => ?_, fun atEnd => ?_⟩
  · rw [exec_tick_of_idle hs, takeTick_of_inside inside]
    rfl
  · rw [exec_tick_of_idle hs, takeTick_of_end atEnd, exec_txCompare_of_end hs atEnd]

end tick

section handshake

/-- The answer to a request (R145, R146) is taken in WAIT_FRAME alone (R149). -/
theorem exec_rsp (s : State) :
    exec .rspFrame s = .next (if s.txb.state = .waitFrame then s.goTx .waitSend else s)
    ∧ exec .rspNone s = .next (if s.txb.state = .waitFrame then s.goTx .idle else s) :=
  ⟨rfl, rfl⟩

/-- The end of a send (R147, R148) is taken in WAIT_SEND alone (R149). -/
theorem exec_done (s : State) (rnd : Byte) :
    exec .doneOk s = .next (if s.txb.state = .waitSend then s.sendDone.raiseCause .transmitSuccess else s)
    ∧ exec (.doneFail rnd) s
        = .next (if s.txb.state = .waitSend then { s with txb := { s.txb with inc := rnd, state := .idle } } else s) :=
  ⟨rfl, rfl⟩

/-- Settles O38: the handshake's operations where the state takes them. -/
theorem handshakeAnswers : Obligations.HandshakeAnswers := by
  intro s rnd
  obtain ⟨frame, noFrame⟩ := exec_rsp s
  obtain ⟨ok, fail⟩ := exec_done s rnd
  refine ⟨fun waiting => ?_, fun sending => ?_⟩
  · rw [frame, noFrame, if_pos waiting, if_pos waiting]
    exact ⟨rfl, rfl⟩
  · rw [ok, fail, if_pos sending, if_pos sending]
    exact ⟨rfl, rfl⟩

/-- Settles O39: each operation where the state does not take it; the level of `run_eligible` asks nothing of the state. -/
theorem txInputsIgnoredElsewhere : Obligations.TxInputsIgnoredElsewhere := by
  intro s rnd
  obtain ⟨frame, noFrame⟩ := exec_rsp s
  obtain ⟨ok, fail⟩ := exec_done s rnd
  refine ⟨exec_tick_and_txCompare_of_ne_idle, fun notWaiting => ?_, fun notSending => ?_, rfl⟩
  · simp only [frame, noFrame, if_neg notWaiting, and_self]
  · simp only [ok, fail, if_neg notSending, and_self]

end handshake

/-- The reset state with TXB's state and counters as given. -/
def scheduling (st : TxState) (cnt inc : Byte) (acc : Word) : State :=
  { State.reset with txb := { State.reset.txb with state := st, cnt := cnt, inc := inc, acc := acc } }

/-- A tick inside an interval and one at its end. -/
theorem tickCountsInIdle_applies :
    (∃ t, exec .tick (scheduling .idle 8 9 5) = .next t ∧ t.txb.cnt = 9 ∧ t.txb.acc = 5)
    ∧ ∃ t, exec .tick (scheduling .idle 9 9 5) = .next t ∧ t.txb.cnt = 0 ∧ t.txb.acc = 14 :=
  ⟨⟨_, (tickCountsInIdle _ rfl).1 (by decide), rfl, rfl⟩, ⟨_, (tickCountsInIdle _ rfl).2 rfl, rfl, rfl⟩⟩

/-- A frame answers a request; a failed send loads the draw. -/
theorem handshakeAnswers_applies :
    (∃ t, exec .rspFrame (scheduling .waitFrame 0 255 5) = .next t ∧ t.txb.state = .waitSend)
    ∧ ∃ t, exec (.doneFail 17) (scheduling .waitSend 0 255 5) = .next t ∧ t.txb.inc = 17 ∧ t.txb.acc = 5 :=
  ⟨⟨_, ((handshakeAnswers _ 17).1 rfl).1, rfl⟩, ⟨_, ((handshakeAnswers _ 17).2 rfl).2, rfl, rfl⟩⟩

/-- While a frame is awaited, ticks and the end of a send are ignored; in IDLE an answer is. -/
theorem txInputsIgnoredElsewhere_applies :
    exec .tick (scheduling .waitFrame 0 255 5) = .next (scheduling .waitFrame 0 255 5)
    ∧ exec .doneOk (scheduling .waitFrame 0 255 5) = .next (scheduling .waitFrame 0 255 5)
    ∧ exec .rspFrame (scheduling .idle 0 255 5) = .next (scheduling .idle 0 255 5) :=
  have ⟨tick, _, done, _⟩ := txInputsIgnoredElsewhere (scheduling .waitFrame 0 255 5) 0
  have ⟨_, rsp, _⟩ := txInputsIgnoredElsewhere (scheduling .idle 0 255 5) 0
  ⟨(tick (by decide)).1, (done (by decide)).1, (rsp (by decide)).1⟩

end Sys2Proof.Machine
end

section
/-! TXB's part of a whole cycle (41_tx_scheduler.md R141 to R144; 70_reset_and_hazards.md R266 step 5): the state the cycle's TXB
operation meets, the decision of a compare over a step, and the ticks of an interval. -/

namespace Sys2Proof.Machine

variable {c : CycleInput} {s t u : State}

section phase

/-- What RXD's part of a cycle, from `s` to `t`, leaves as it was for TXB (R130, R143): its registers, the environment, and what the
decision reads of the cycle. -/
structure LeavesTxb (s t : State) : Prop where
  txb : t.txb = s.txb
  env : t.env = s.env
  rxBusy : t.cyc.rxBusy = s.cyc.rxBusy
  runEligible : t.cyc.runEligible = s.cyc.runEligible

/-- The timeout writes RXD alone (R112). -/
theorem afterTimeout_leavesTxb (s : State) : LeavesTxb s s.afterTimeout := by
  unfold State.afterTimeout
  split <;> exact ⟨rfl, rfl, rfl, rfl⟩

/-- Each row of an edge leaves TXB alone, the dispatch and its cause included. -/
theorem edgeEffect_leavesTxb (adc : Sample) (k : EdgeKind) (s : State) : LeavesTxb s (edgeEffect adc k s) := by
  cases k <;> exact ⟨rfl, rfl, rfl, rfl⟩

/-- Steps 2 to 4 leave to TXB what they started with. -/
theorem rxOutcome_leavesTxb (s : State) (c : CycleInput) : LeavesTxb s (s.rxOutcome c) := by
  have timeout := afterTimeout_leavesTxb s
  have edge := edgeEffect_leavesTxb c.adc (cycleRow c s.afterTimeout) s.afterTimeout
  refine ⟨?_, ?_, ?_, ?_⟩ <;> simp only [State.rxOutcome, State.countRx_txb, State.countRx_env, State.countRx_cyc]
  · exact edge.txb.trans timeout.txb
  · exact edge.env.trans timeout.env
  · exact edge.rxBusy.trans timeout.rxBusy
  · exact edge.runEligible.trans timeout.runEligible

/-- The level of `run_eligible` in the cycle (log 16). -/
def State.withLevel (b : Bool) (s : State) : State := { s with cyc := { s.cyc with runEligible := b } }

/-- Step 5 first presents the level, which is 0 until then. -/
theorem runOps_levelOps (hr : inReset c = false) (h0 : u.cyc.runEligible = false) :
    runOps (levelOps c) u = .next (u.withLevel (c.evt.getLsbD 7)) := by
  rw [levelOps_eq hr]
  cases c.evt.getLsbD 7 with
  | true => rfl
  | false => exact congrArg (fun b => Host.Outcome.next (u.withLevel b)) h0

/-- The state in which the cycle's TXB operation runs (`txHostPhase_rxOutcome` ties it to the cycle). -/
def State.atDecision (s : State) (c : CycleInput) : State :=
  ((s.afterRead c).rxOutcome c).withLevel (c.evt.getLsbD 7)

/-- TXB meets its own registers as they were in `S`. -/
@[simp] theorem State.atDecision_txb : (s.atDecision c).txb = s.txb := (rxOutcome_leavesTxb (s.afterRead c) c).txb

/-- The cycle has taken its inputs and drawn nothing else. -/
@[simp] theorem State.atDecision_env : (s.atDecision c).env = s.beginCycle.env :=
  (rxOutcome_leavesTxb (s.afterRead c) c).env

/-- The decision reads `S.rx_busy` (R71, R143). -/
@[simp] theorem State.atDecision_rxBusy : (s.atDecision c).cyc.rxBusy = s.rxd.busy :=
  (rxOutcome_leavesTxb (s.afterRead c) c).rxBusy

/-- The decision reads the port `run_eligible` (R143). -/
@[simp] theorem State.atDecision_runEligible : (s.atDecision c).cyc.runEligible = c.evt.getLsbD 7 := rfl

/-- Steps 5 and 6 after RXD's part: TXB's operation, then the host write. -/
theorem txHostPhase_rxOutcome (hr : inReset c = false) :
    txHostPhase c s.beginCycle ((s.afterRead c).rxOutcome c)
      = andThen (runOption (txOperation s c) (s.atDecision c)) (runOps (writeOps c)) := by
  have noLevel : ((s.afterRead c).rxOutcome c).cyc.runEligible = false :=
    (rxOutcome_leavesTxb (s.afterRead c) c).runEligible
  rw [txHostPhase, List.append_assoc, runOps_append, runOps_levelOps hr noLevel, andThen_next, runOps_append, txOps_eq hr,
    runOps_toList]
  rfl

/-- With a tick in IDLE, TXB's operation is TICK or TX_COMPARE, as the counter of `S` says; it takes the tick (R141). -/
theorem runOption_txOperation_of_tick (hu : u.txb = s.txb) (hs : s.txb.state = .idle) (tick : c.evt.getLsbD 2 = true) :
    runOption (txOperation s c) u = .next u.takeTick := by
  have hu' : u.txb.state = .idle := hu ▸ hs
  simp only [txOperation, hs, tick, if_true]
  split
  case isTrue h =>
    have atEnd : u.txb.cnt = u.txb.inc := hu ▸ h
    rw [takeTick_of_end atEnd]
    exact exec_txCompare_of_end hu' atEnd
  case isFalse => exact exec_tick_of_idle hu'

/-- The host write of step 6 touches nothing of TXB but TX_PERIOD (R130, R218). -/
theorem runOps_writeOps_txb (h : runOps (writeOps c) u = .next t) : t.txb = { u.txb with period := t.txb.period } :=
  runOps_keeps (P := fun v => v.txb = { u.txb with period := v.txb.period })
    (fun i hi v w keep he => by
      obtain ⟨_, _, hx, _⟩ := execHost_frame (isHostOp_of_mem_writeOps hi) he
      exact hx.trans (congrArg (fun x : Txb => { x with period := w.txb.period }) keep))
    rfl h

/-- What a step with a tick from IDLE does to TXB, beside any other events. -/
theorem step_txb_of_tick (h : step s = .next t) (hr : inReset s.nextInput = false) (hs : s.txb.state = .idle)
    (tick : s.nextInput.evt.getLsbD 2 = true) :
    t.txb = { (s.atDecision s.nextInput).takeTick.txb with period := t.txb.period } := by
  obtain ⟨_, w, hw, rfl⟩ := step_eq_next_iff.1 h
  rw [runCycle_of_not_inReset hr] at hw
  obtain ⟨u, hu, ht⟩ := (andThen_eq_next_iff ..).1 hw
  rw [rxOutcome_of_rxPhase hr timeoutDue_afterRead hu, txHostPhase_rxOutcome hr,
    runOption_txOperation_of_tick State.atDecision_txb hs tick, andThen_next] at ht
  exact runOps_writeOps_txb (t := w) ht

end phase

section decision

/-- The sum of R142 is that of `S`. -/
@[simp] theorem accNew_atDecision : accNew (s.atDecision c) = accNew s := by
  simp only [accNew, State.atDecision_txb]

/-- The decision of R143 in a cycle is made on `S` and the port. -/
theorem requestDue_atDecision_iff :
    requestDue (s.atDecision c) = true ↔
      s.rxd.busy = false ∧ s.txb.period.toNat < (accNew s).toNat ∧ c.evt.getLsbD 7 = true := by
  rw [requestDue_iff, accNew_atDecision, State.atDecision_txb, State.atDecision_rxBusy, State.atDecision_runEligible]

/-- From IDLE a compare event goes to WAIT_FRAME exactly with a request, and else stays (R143, R144). -/
theorem compare_state_iff (hs : s.txb.state = .idle) :
    (s.compare.txb.state = .waitFrame ↔ requestDue s = true)
      ∧ (s.compare.txb.state ≠ .waitFrame → s.compare.txb.state = .idle) := by
  cases hd : requestDue s <;> simp [hd, hs]

/-- Settles O37: alone, the row TX_COMPARE; over a step, the tick that TXB takes on the latches of the cycle. -/
theorem compareDecides : Obligations.CompareDecides := by
  refine ⟨fun s hs atEnd => ⟨accNew s, accNew_toNat s, ?alone⟩,
    fun s t h hr tick hs atEnd => ⟨accNew s, accNew_toNat s, ?cycle⟩⟩
  case alone =>
    rw [exec_txCompare_of_end hs atEnd, State.compare]
    simp only [requestDue_iff, hs]
  case cycle =>
    have txb := step_txb_of_tick h hr hs tick
    have atEnd' : (s.atDecision s.nextInput).txb.cnt = (s.atDecision s.nextInput).txb.inc := by
      rw [State.atDecision_txb, atEnd]
    obtain ⟨request, skip⟩ := compare_state_iff (s := s.atDecision s.nextInput) (by rw [State.atDecision_txb, hs])
    rw [takeTick_of_end atEnd'] at txb
    rw [txb]
    exact ⟨rfl, accNew_atDecision, rfl, request.trans requestDue_atDecision_iff, skip⟩

end decision

section interval

/-- A run goes on after a step. -/
theorem run_succ_of_step (h : step s = .next t) (k : Nat) : Sys2Proof.core.run (k + 1) s = Sys2Proof.core.run k t := by
  have h' : Sys2Proof.core.step s = .next t := h
  simp only [Host.Core.run, h']

/-- A cycle with a tick alone completes, and is that tick. -/
theorem step_tickInput (legal : paramsLegal s.params = true) (hn : s.nextInput = tickInput) (hs : s.txb.state = .idle) :
    step s = .next (s.atDecision tickInput).takeTick.endCycle := by
  have noEdge : cycleRow tickInput (s.afterRead tickInput).afterTimeout ≠ .stopOutOfRange := nofun
  refine step_eq_next_iff.2 ⟨legal, _, ?_, rfl⟩
  rw [hn, runCycle_of_not_inReset rfl, rxPhase_eq rfl timeoutDue_afterRead noEdge, andThen_next, txHostPhase_rxOutcome rfl,
    runOption_txOperation_of_tick State.atDecision_txb hs rfl]
  rfl

/-- A tick short of the end of an interval only counts (R141). -/
theorem step_tickInput_of_inside (legal : paramsLegal s.params = true) (hn : s.nextInput = tickInput)
    (hs : s.txb.state = .idle) (inside : s.txb.cnt.toNat < s.txb.inc.toNat) :
    ∃ t, step s = .next t ∧ t.env.schedule = s.env.schedule.tail ∧ t.txb.cnt.toNat = s.txb.cnt.toNat + 1
      ∧ t.txb.inc = s.txb.inc ∧ t.txb.acc = s.txb.acc ∧ t.txb.state = .idle := by
  have goes := step_tickInput legal hn hs
  rw [takeTick_of_inside (by rw [State.atDecision_txb]; exact fun he => Nat.ne_of_lt inside (congrArg BitVec.toNat he))] at goes
  refine ⟨_, goes, ?_⟩
  simp only [State.endCycle_env, State.countTick_env, State.atDecision_env, State.beginCycle_env, State.endCycle_txb,
    State.countTick_txb, State.atDecision_txb, hs, and_self, and_true, true_and]
  exact BitVec.toNat_add_of_lt (Nat.lt_of_le_of_lt inside s.txb.inc.isLt)

/-- The last tick of an interval adds it to the wait and starts one of 256 ticks; `run_eligible` is 0 (R142, R144). -/
theorem step_tickInput_of_end (legal : paramsLegal s.params = true) (hn : s.nextInput = tickInput)
    (hs : s.txb.state = .idle) (atEnd : s.txb.cnt = s.txb.inc) :
    ∃ t, step s = .next t ∧ t.txb.cnt = 0 ∧ t.txb.inc = 0xFF ∧ t.txb.acc = accNew s ∧ t.txb.state = .idle := by
  have noRequest : ¬requestDue (s.atDecision tickInput) = true := fun due =>
    have ⟨_, _, eligible⟩ := requestDue_atDecision_iff.1 due
    nomatch eligible
  have goes := step_tickInput legal hn hs
  rw [takeTick_of_end (by rwa [State.atDecision_txb])] at goes
  refine ⟨_, goes, rfl, rfl, accNew_atDecision, ?_⟩
  rw [State.endCycle_txb, State.compare_txb, if_neg noRequest, State.atDecision_txb, hs]

/-- Settles O41, by induction on the number of ticks: each is inside the interval or, with none to follow, its last. -/
theorem intervalLength : Obligations.IntervalLength := by
  intro s k rest inv idle bound sched
  have count := inv.txb.count
  induction k generalizing s with
  | zero => exact ⟨s, rfl, fun _ => ⟨rfl, rfl, rfl, idle⟩, fun past => by omega⟩
  | succ k ih =>
    have tick : s.nextInput = tickInput := by
      rw [State.nextInput, sched]
      rfl
    rcases Nat.lt_or_eq_of_le count with inside | atEnd
    case inl =>
      obtain ⟨u, goes, tail, cnt, inc, acc, idle'⟩ := step_tickInput_of_inside inv.params tick idle inside
      have inv' := stepKeepsGoodStates s u inv goes
      obtain ⟨t, run, short, full⟩ :=
        ih u inv' idle' (by rw [cnt, inc]; omega) (by rw [tail, sched]; rfl) inv'.txb.count
      rw [cnt, inc, acc, Nat.add_assoc, Nat.add_comm 1 k] at short full
      exact ⟨t, (run_succ_of_step goes k).trans run, short, full⟩
    case inr =>
      obtain ⟨t, goes, cnt, inc, acc, idle'⟩ := step_tickInput_of_end inv.params tick idle (BitVec.eq_of_toNat_eq atEnd)
      have last : k = 0 := by omega
      subst last
      exact ⟨t, run_succ_of_step goes 0, fun short => by omega, fun _ => ⟨cnt, inc, acc ▸ accNew_toNat s, idle'⟩⟩

end interval

/-- A request and a skip: the period just below the sum and at it, beside an edge and a write of TX_PERIOD in the same cycle. -/
theorem compareDecides_applies :
    (∃ t, step ((compareCycle false 0xFFFD).withInputs [{ evt := 0x86, adc := 0, rnd := 0, host := some 0x88FFFF }]) = .next t
      ∧ t.txb.state = .waitFrame)
    ∧ ∃ t, step ((compareCycle false 0xFFFE).withInputs [{ evt := 0x86, adc := 0, rnd := 0, host := some 0x880000 }]) = .next t
      ∧ t.txb.state ≠ .waitFrame := by
  have request : step ((compareCycle false 0xFFFD).withInputs [{ evt := 0x86, adc := 0, rnd := 0, host := some 0x88FFFF }])
      = .next _ := rfl
  have skip : step ((compareCycle false 0xFFFE).withInputs [{ evt := 0x86, adc := 0, rnd := 0, host := some 0x880000 }])
      = .next _ := rfl
  obtain ⟨a, sum, _, _, _, iff, _⟩ := compareDecides.2 _ _ request rfl rfl rfl rfl
  obtain ⟨b, sum', _, _, _, iff', _⟩ := compareDecides.2 _ _ skip rfl rfl rfl rfl
  exact ⟨⟨_, request, iff.2 ⟨rfl, by rw [sum]; decide, rfl⟩⟩,
    ⟨_, skip, fun waiting => absurd (iff'.1 waiting).2.1 (by rw [sum']; decide)⟩⟩

/-- A whole interval of three ticks, and two of its ticks. -/
theorem intervalLength_applies :
    (∃ t, Sys2Proof.core.run 3 ((scheduling .idle 0 2 5).withInputs [tickInput, tickInput, tickInput]) = .next t
      ∧ t.txb.cnt = 0 ∧ t.txb.acc.toNat = 7)
    ∧ ∃ t, Sys2Proof.core.run 2 ((scheduling .idle 0 2 5).withInputs [tickInput, tickInput]) = .next t
      ∧ t.txb.cnt.toNat = 2 ∧ t.txb.acc = 5 := by
  have good (l : List CycleInput) : ((scheduling .idle 0 2 5).withInputs l).Inv :=
    have reset := resetStateIsGood.1
    ⟨reset.params, reset.rxd, ⟨Nat.zero_le _, fun _ => rfl⟩, reset.st, reset.cyc⟩
  obtain ⟨t, run, _, full⟩ := intervalLength _ 3 [] (good _) rfl (by decide) rfl
  obtain ⟨u, run', short, _⟩ := intervalLength _ 2 [] (good _) rfl (by decide) rfl
  obtain ⟨cnt, _, acc, _⟩ := full rfl
  obtain ⟨cnt', _, acc', _⟩ := short (by decide)
  exact ⟨⟨t, run, cnt, acc⟩, ⟨u, run', cnt', acc'⟩⟩

end Sys2Proof.Machine
end

section
/-! The two forms of the CRC byte update (42_crc.md R160, R161): both take the byte into the low half of the CRC and move the high
half down, so that they agree where they agree on one byte from 0; and no shift of the bitwise form loses anything. -/

namespace Sys2Proof.Machine

/-- A shift bit by bit: the polynomial 0x8408 comes in where bit 0 goes out (R161). -/
theorem getLsbD_crcShift (c : Word) (i : Nat) :
    (crcShift c).getLsbD i = (c.getLsbD (i + 1) ^^ (c.getLsbD 0 && (0x8408#16).getLsbD i)) := by
  unfold crcShift
  cases h : c.getLsbD 0 <;> simp [Nat.add_comm 1 i]

theorem crcShift_xor (a b : Word) : crcShift (a ^^^ b) = crcShift a ^^^ crcShift b := by
  apply BitVec.eq_of_getLsbD_eq
  intro i _
  simp only [getLsbD_crcShift, BitVec.getLsbD_xor, Bool.and_xor_distrib_right, Bool.xor_assoc, Bool.xor_left_comm]

theorem crcShifts_xor (n : Nat) (a b : Word) : crcShifts n (a ^^^ b) = crcShifts n a ^^^ crcShifts n b := by
  induction n generalizing a b with
  | zero => rfl
  | succ n ih => simp only [crcShifts, crcShift_xor, ih]

/-- Shifts that send out zeros only bring in no polynomial. -/
theorem crcShifts_of_low_zero {n : Nat} {c : Word} (h : ∀ i < n, c.getLsbD i = false) : crcShifts n c = c >>> n := by
  induction n generalizing c with
  | zero => rfl
  | succ n ih =>
    have first : crcShift c = c >>> 1 := if_neg (by simp only [h 0 n.succ_pos, Bool.false_eq_true, not_false_iff])
    have rest (i : Nat) (hi : i < n) : (c >>> 1).getLsbD i = false := by
      rw [BitVec.getLsbD_ushiftRight]
      exact h _ (by omega)
    rw [crcShifts, first, ih rest, ← BitVec.shiftRight_add, Nat.add_comm]

/-- Bit 15 of a shift tells which bit 0 went out, so that a shift can be undone. -/
theorem crcShift_injective : Function.Injective crcShift := by
  intro a b h
  have bits (i : Nat) := congrArg (BitVec.getLsbD · i) h
  simp only [getLsbD_crcShift] at bits
  have low : a.getLsbD 0 = b.getLsbD 0 := by simpa using bits 15
  apply BitVec.eq_of_getLsbD_eq
  intro i _
  cases i with
  | zero => exact low
  | succ i => simpa only [low, Bool.xor_left_inj] using bits i

theorem crcShifts_injective (n : Nat) : Function.Injective (crcShifts n) := by
  induction n with
  | zero => exact fun _ _ h => h
  | succ n ih => exact ih.comp crcShift_injective

theorem setWidth_eq_zero_append (d : Byte) : d.setWidth 16 = 0#8 ++ d := BitVec.setWidth_eq_append (by decide)

/-- Eight shifts move the high half down over a low half of zeros. -/
theorem crcShifts_append_zero (hi : Byte) : crcShifts 8 (hi ++ 0#8) = 0#8 ++ hi := by
  have zeros (i : Nat) (low : i < 8) : BitVec.getLsbD (w := 16) (hi ++ 0#8) i = false := by
    rw [BitVec.getLsbD_append, if_pos low, BitVec.getLsbD_zero]
  rw [crcShifts_of_low_zero zeros]
  apply BitVec.eq_of_toNat_eq
  rw [BitVec.toNat_ushiftRight, BitVec.toNat_append, BitVec.toNat_append]
  simp [Nat.shiftLeft_shiftRight]

/-- The bitwise form by the halves of the CRC (R161). -/
theorem crcBit_append (hi lo d : Byte) : crcBit (hi ++ lo) d = (0#8 ++ hi) ^^^ crcBit 0 (lo ^^^ d) := by
  have halves : (hi ++ lo) ^^^ (0#8 ++ d) = (hi ++ 0#8) ^^^ (0#8 ++ (lo ^^^ d)) := by
    rw [BitVec.xor_append, BitVec.xor_append, BitVec.zero_xor]
  have fromZero (x : Byte) : crcBit 0 x = crcShifts 8 (0#8 ++ x) := by
    rw [crcBit, setWidth_eq_zero_append, BitVec.ofNat_eq_ofNat, BitVec.zero_xor]
  rw [fromZero, crcBit, setWidth_eq_zero_append, halves, crcShifts_xor, crcShifts_append_zero]

/-- The byte form by the halves of the CRC (R160). -/
theorem crcUpd_append (hi lo d : Byte) : crcUpd (hi ++ lo) d = (0#8 ++ hi) ^^^ crcUpd 0 (lo ^^^ d) := by
  have halves (y : Byte) : y ++ hi = (0#8 ++ hi) ^^^ (y ++ 0#8) := by
    rw [BitVec.xor_append, BitVec.zero_xor, BitVec.xor_zero]
  simp only [crcUpd, BitVec.setWidth_append_eq_right, BitVec.extractLsb'_append_eq_left, BitVec.xor_comm d lo]
  rw [halves]
  simp [BitVec.xor_assoc]

/-- The table of the 256 bytes folded into 0. -/
theorem crcBit_zero : ∀ d, crcBit 0 d = crcUpd 0 d := by decide

/-- Settles O26: both forms split alike along the halves of the CRC, which leaves the table of 256 bytes. -/
theorem crcFormsAgree : Obligations.CrcFormsAgree := by
  intro c d
  rw [← BitVec.extractLsb'_append_extractLsb' (w := 8) (len := 8) (x := c), crcBit_append, crcUpd_append, crcBit_zero]

/-- From the same CRC, different bytes give different CRCs. -/
theorem crcUpd_injective_byte (c : Word) : Function.Injective (crcUpd c) := by
  intro d e h
  rw [← crcFormsAgree, ← crcFormsAgree] at h
  have fed := (BitVec.xor_right_inj c).1 (crcShifts_injective 8 h)
  rw [setWidth_eq_zero_append, setWidth_eq_zero_append] at fed
  exact (BitVec.append_right_inj _).1 fed

/-- By the same byte, different CRCs stay different. -/
theorem crcUpd_injective_crc (d : Byte) : Function.Injective (crcUpd · d) := by
  intro a b h
  simp only [← crcFormsAgree _ d] at h
  exact (BitVec.xor_left_inj _).1 (crcShifts_injective 8 h)

theorem foldl_crcUpd_injective (l : List Byte) : Function.Injective (l.foldl crcUpd) := by
  induction l with
  | nil => exact fun _ _ h => h
  | cons d l ih => exact ih.comp (crcUpd_injective_crc d)

/-- A byte written into a list that leaves the CRC the same was there before: the CRCs differ at that byte, and the bytes after it
keep them different. -/
theorem set_eq_self_of_foldl_crcUpd {l : List Byte} {i : Nat} {d : Byte} {c : Word}
    (h : (l.set i d).foldl crcUpd c = l.foldl crcUpd c) : l.set i d = l := by
  induction l generalizing c i with
  | nil => rfl
  | cons x l ih =>
    cases i with
    | zero => exact congrArg (· :: l) (crcUpd_injective_byte c (foldl_crcUpd_injective l h))
    | succ i => exact congrArg (x :: ·) (ih h)

end Sys2Proof.Machine
end

section
/-! The frame check and the host's CRC engine (42_crc.md R163 to R169): a frame is valid where the CRC of all its twelve
bytes is 0. -/

namespace Sys2Proof.Machine

variable {f g : Frame} {i k : Nat}

/-- Settles O25: each command is its one assignment. -/
theorem crcEngineCommands : Obligations.CrcEngineCommands := fun _ _ => ⟨rfl, rfl⟩

/-- CRC_INIT and writes of CRC_DATA leave the CRC of the bytes written in `crc_acc`, and change nothing else (R165, R166). -/
theorem runOps_crcInit_wrCrcData (b : List Byte) (s : State) :
    runOps (.crcInit :: b.map Instr.wrCrcData) s = .next { s with crcAcc := crc16 b } := by
  rw [runOps_cons, (crcEngineCommands s 0).1, andThen_next, runOps_wrCrcData, crc16]

/-- Settles O27: the two bytes of CRC_ACC, joined as the frame check joins them (R164), are the CRC of the ten. -/
theorem builtFrameValidates : Obligations.BuiltFrameValidates := by
  intro s b f _
  refine ⟨_, runOps_crcInit_wrCrcData b s, rfl, fun ten low high => ?_⟩
  rw [frameOk_iff, ten, low, high]
  exact (BitVec.extractLsb'_append_extractLsb' (w := 8) (len := 8) (x := crc16 b)).symm

theorem take_succ_frame (f : Frame) (hk : k < 12) : f.toList.take (k + 1) = f.toList.take k ++ [frameByte f k] := by
  rw [List.take_add_one, frameByte_eq_getElem f hk]
  simp [hk]

/-- The check's ten bytes and the two of the CRC field (R163). -/
theorem crc16_frame (f : Frame) :
    crc16 f.toList = crcUpd (crcUpd (crc16 (f.toList.take 10)) (frameByte f 10)) (frameByte f 11) := by
  have whole : f.toList.take 12 = f.toList := List.take_of_length_le (by simp)
  rw [← crc16_append_one, ← crc16_append_one, ← take_succ_frame f (by decide), ← take_succ_frame f (by decide), whole]

/-- A CRC's own low byte leaves its high byte alone (R160). -/
theorem crcUpd_append_self (hi lo : Byte) : crcUpd (hi ++ lo) lo = 0#8 ++ hi := by
  have nothing : crcUpd 0 0#8 = 0#16 := rfl
  rw [crcUpd_append, BitVec.xor_self, nothing]
  exact BitVec.xor_zero

/-- A frame is valid exactly where the CRC runs to 0 over its twelve bytes (R163, the corner case): no other CRC of the first ten
runs to 0 over the same two bytes. -/
theorem frameOk_iff_crc16_eq_zero (f : Frame) : frameOk f = true ↔ crc16 f.toList = 0 := by
  have field (hi lo : Byte) : crcUpd (crcUpd (hi ++ lo) lo) hi = 0 := by
    rw [crcUpd_append_self, crcUpd_append_self]
    rfl
  rw [frameOk_iff, crc16_frame, ← field (frameByte f 11) (frameByte f 10), (crcUpd_injective_crc _).eq_iff,
    (crcUpd_injective_crc _).eq_iff]

/-- A frame that differs from another in one place only is the other with that byte written. -/
theorem toList_eq_set (others : ∀ k < 12, k ≠ i → frameByte g k = frameByte f k) :
    g.toList = f.toList.set i (frameByte g i) := by
  have written : g = setFrameByte f i (frameByte g i) := frame_ext fun k hk => by
    rw [frameByte_setFrameByte f _ hk]
    split
    case isTrue here => rw [here]
    case isFalse elsewhere => exact others k hk elsewhere
  exact (congrArg Vector.toList written).trans Vector.toList_setIfInBounds

/-- Settles O28: two valid frames have the same CRC over their twelve bytes, and one byte written that keeps it changes
nothing. -/
theorem oneByteChangeRejected : Obligations.OneByteChangeRejected := by
  intro f g i valid changed _ others
  have set := toList_eq_set others
  refine Bool.eq_false_iff.2 fun valid' => changed ?_
  rw [frameOk_iff_crc16_eq_zero] at valid valid'
  have same : (f.toList.set i (frameByte g i)).foldl crcUpd 0xFFFF = f.toList.foldl crcUpd 0xFFFF := by
    rw [← set]
    exact valid'.trans valid.symm
  exact Vector.toList_inj.1 (set.trans (set_eq_self_of_foldl_crcUpd same)).symm

/-- The scenario frame of 95_test_vectors.md: the engine leaves 0xB0A0 for its ten bytes (V-CRC-2), low byte first. -/
theorem builtFrameValidates_applies : frameOk (completedFrame lastStopDue.rxd) = true := by
  obtain ⟨t, run, _, valid⟩ :=
    builtFrameValidates State.reset [1, 0, 0, 0, 0, 0, 0, 0, 0, 0] (completedFrame lastStopDue.rxd) rfl
  obtain rfl := Host.Outcome.next.inj ((runOps_crcInit_wrCrcData _ State.reset).symm.trans run)
  exact valid (by decide) (by decide) (by decide)

/-- The same frame with a byte changed, at both ends of the ten bytes and of the CRC field. -/
theorem oneByteChangeRejected_applies :
    ∀ i ∈ [0, 9, 10, 11], frameOk (setFrameByte (completedFrame lastStopDue.rxd) i 0x11) = false := by
  have changes : ∀ i ∈ [0, 9, 10, 11],
      completedFrame lastStopDue.rxd ≠ setFrameByte (completedFrame lastStopDue.rxd) i 0x11 ∧ i < 12 := by decide
  intro i hi
  obtain ⟨changed, bound⟩ := changes i hi
  exact oneByteChangeRejected _ _ i builtFrameValidates_applies changed bound fun k hk elsewhere => by
    rw [frameByte_setFrameByte _ _ hk, if_neg elsewhere]

end Sys2Proof.Machine
end

section
/-! The bucket search and the segments of the estimator (43_distance.md R183, R184, R192): the search's answer brackets the sample
between two entries of the table, and over such a bracket the quotient falls from one end's value to the other's. -/

namespace Sys2Proof.Machine

variable {p : Params} {t : CalTable} {x x' : Int} {j k n : Nat}

section search

/-- An index below the sample that is the first such is the search's answer. -/
theorem findBucket_eq_some (h1 : 1 ≤ k) (h13 : k ≤ 13) (below : calInt t k < x)
    (first : ∀ j, 1 ≤ j → j < k → x ≤ calInt t j) : findBucket t x = some k := by
  cases found : findBucket t x with
  | none => exact absurd below (Int.not_lt.2 (findBucket_none.1 found k h1 h13))
  | some m =>
    obtain ⟨m1, _, mBelow, mFirst⟩ := findBucket_some found
    have notBefore : ¬m < k := fun h => absurd mBelow (Int.not_lt.2 (first m m1 h))
    have notAfter : ¬k < m := fun h => absurd below (Int.not_lt.2 (mFirst k h1 h))
    rw [show m = k by omega]

/-- Settles O29: there is at most one least index. -/
theorem bucketSearchIsLeast : Obligations.BucketSearchIsLeast :=
  fun _ _ => ⟨fun _ => ⟨findBucket_some, fun ⟨h1, h13, below, first⟩ => findBucket_eq_some h1 h13 below first⟩,
    findBucket_none⟩

/-- A sample not above the first entry lies between the two entries of the bucket found. -/
theorem findBucket_bracket (found : findBucket t x = some k) (near : x ≤ calInt t 0) :
    calInt t k < x ∧ x ≤ calInt t (k - 1) := by
  obtain ⟨h1, _, below, first⟩ := findBucket_some found
  refine ⟨below, ?_⟩
  rcases Nat.eq_or_lt_of_le h1 with rfl | later
  · exact near
  · exact first (k - 1) (by omega) (by omega)

/-- A larger sample is found in no later bucket. -/
theorem findBucket_antitone (le : x ≤ x') (found : findBucket t x = some k) (found' : findBucket t x' = some j) : j ≤ k := by
  obtain ⟨h1, _, below, _⟩ := findBucket_some found
  obtain ⟨_, _, _, first⟩ := findBucket_some found'
  by_contra later
  have := first k h1 (Nat.lt_of_not_le later)
  omega

end search

section segment

/-- `Int.mul_tdiv_mul_of_pos` for a common factor of either sign. -/
theorem mul_tdiv_mul_of_ne_zero {d : Int} (hd : d ≠ 0) (a b : Int) : (d * a).tdiv (d * b) = a.tdiv b := by
  rcases Int.lt_or_gt_of_ne hd with neg | pos
  · rw [← Int.neg_tdiv_neg, ← Int.neg_mul, ← Int.neg_mul]
    exact Int.mul_tdiv_mul_of_pos a b (Int.neg_pos_of_neg neg)
  · exact Int.mul_tdiv_mul_of_pos a b pos

/-- Where a segment that is not flat, or its extension, is `n` rises from its origin, the quotient is `P_DIST_SCALE * n / 2`
(R184). -/
theorem segmentQuot_of_rises (hd : bucketRise t k ≠ 0) (hx : x = calInt t k + bucketRise t k * (n - k)) :
    segmentQuot p t x k = (p.distScale * n / 2 : Nat) := by
  have num : p.distScale * (x - (calInt t k - bucketRise t k * k)) = bucketRise t k * ((p.distScale * n : Nat) : Int) := by
    rw [hx]
    push_cast
    ring
  rw [segmentQuot, num, Int.mul_comm 2, mul_tdiv_mul_of_ne_zero hd]
  exact (Int.ofNat_tdiv ..).symm

/-- Settles O30: `T[k]` is `k` rises from the segment's origin, and `T[k - 1]` one less. -/
theorem segmentEndpoints : Obligations.SegmentEndpoints := by
  intro p t k h1 _ notFlat
  have rise : bucketRise t k ≠ 0 := sub_ne_zero.2 notFlat
  refine ⟨segmentQuot_of_rises rise (by simp), segmentQuot_of_rises rise ?_⟩
  rw [Int.ofNat_sub h1, bucketRise]
  ring

/-- Over a falling segment the quotient falls. -/
theorem segmentQuot_antitone (falls : calInt t k < calInt t (k - 1)) (le : x ≤ x') :
    segmentQuot p t x' k ≤ segmentQuot p t x k := by
  have rise : bucketRise t k < 0 := Int.sub_neg_of_lt falls
  unfold segmentQuot
  rw [← Int.neg_tdiv_neg, ← Int.neg_tdiv_neg (p.distScale * (x - _))]
  refine Int.tdiv_le_tdiv (by omega) (Int.neg_le_neg ?_)
  exact Int.mul_le_mul_of_nonneg_left (Int.sub_le_sub_right le _) (Int.natCast_nonneg _)

/-- Settles O31: the quotient falls from its value at `T[k]` to that at `T[k - 1]`. -/
theorem segmentBetweenEnds : Obligations.SegmentBetweenEnds := by
  intro p t x k h1 h13 falls below above
  obtain ⟨atLow, atHigh⟩ := segmentEndpoints p t k h1 h13 falls.ne
  exact ⟨atHigh ▸ segmentQuot_antitone falls above, atLow ▸ segmentQuot_antitone falls below.le⟩

end segment

/-- A strictly falling high table, `T[i] = 980 - 60 * i`. -/
def fallingTable : CalTable := #v[980, 920, 860, 800, 740, 680, 620, 560, 500, 440, 380, 320, 260, 200]

/-- The first and the last bucket. -/
theorem bucketSearchIsLeast_applies :
    findBucket fallingTable 921 = some 1 ∧ findBucket fallingTable 201 = some 13 ∧ findBucket fallingTable 200 = none :=
  have found (x : Int) (k : Nat) := ((bucketSearchIsLeast fallingTable x).1 k).2
  ⟨found _ _ ⟨by decide, by decide, by decide, fun j h1 hj => by omega⟩,
    found _ _ ⟨by decide, by decide, by decide, by
      have entries : ∀ j < 13, 201 ≤ calInt fallingTable j := by decide
      exact fun j _ hj => entries j hj⟩,
    (bucketSearchIsLeast fallingTable 200).2.2 <| by
      have entries : ∀ j < 14, 200 ≤ calInt fallingTable j := by decide
      exact fun j _ hj => entries j (by omega)⟩

/-- The ends of the last segment, and a sample inside it. -/
theorem segment_applies :
    segmentQuot Config.suggested fallingTable 200 13 = 65 ∧ segmentQuot Config.suggested fallingTable 260 13 = 60
      ∧ 60 ≤ segmentQuot Config.suggested fallingTable 230 13 ∧ segmentQuot Config.suggested fallingTable 230 13 ≤ 65 :=
  have ⟨low, high⟩ := segmentEndpoints Config.suggested fallingTable 13 (by decide) (by decide) (by decide)
  ⟨low, high, segmentBetweenEnds Config.suggested fallingTable 230 13 (by decide) (by decide) (by decide) (by decide)
    (by decide)⟩

end Sys2Proof.Machine
end

section
/-! The channels of the estimator and their combination (43_distance.md R182 to R188, R192): the cross-fade is a weighted mean, one
search alone can meet a flat segment, and the high channel alone falls as its sample rises. -/

namespace Sys2Proof.Machine

variable {p : Params} {t h l : CalTable} {x x' : Int} {k : Nat} {hg lg : Sample} {d : Byte}

section blend

/-- A weighted mean, floored, lies between its two values. -/
theorem weightedMean_between {a b u v : Int} (hu : 0 ≤ u) (hv : 0 ≤ v) (pos : 0 < u + v) :
    min a b ≤ (a * u + b * v) / (u + v) ∧ (a * u + b * v) / (u + v) ≤ max a b := by
  constructor
  · refine Int.le_ediv_of_mul_le pos ?_
    rw [Int.mul_add]
    exact Int.add_le_add (Int.mul_le_mul_of_nonneg_right (min_le_left a b) hu)
      (Int.mul_le_mul_of_nonneg_right (min_le_right a b) hv)
  · refine Int.ediv_le_of_le_mul pos ?_
    rw [Int.mul_add]
    exact Int.add_le_add (Int.mul_le_mul_of_nonneg_right (le_max_left a b) hu)
      (Int.mul_le_mul_of_nonneg_right (le_max_right a b) hv)

/-- Settles O32: the two weights of the blend are the distances to the ends of the overlap zone. -/
theorem blendBetweenChannels : Obligations.BlendBetweenChannels := by
  intro p dh dl hg above below
  have width : (p.hgSat : Int) - p.hgMin = (p.hgSat - hg) + (hg - p.hgMin) := by omega
  rw [blend, width]
  exact weightedMean_between (by omega) (by omega) (by omega)

/-- A quarter of the way into the overlap zone of the suggested parameters. -/
theorem blendBetweenChannels_applies : 40 ≤ blend Config.suggested 40 60 750 ∧ blend Config.suggested 40 60 750 ≤ 60 :=
  blendBetweenChannels Config.suggested 40 60 750 (by decide) (by decide)

end blend

section errors

@[simp] theorem channelOf_eq_derr_iff (r : Option Byte) : channelOf r = .derr ↔ r = none := by
  cases r <;> simp [channelOf]

@[simp] theorem channelOf_ne_off (r : Option Byte) : channelOf r ≠ .off := by
  cases r <;> exact nofun

/-- The segment of a bucket the search found is not flat (R188). -/
theorem segment_ne_none_of_found (found : findBucket t x = some k) (near : x ≤ calInt t 0) : segment p t x k ≠ none := by
  obtain ⟨below, above⟩ := findBucket_bracket found near
  rw [Ne, segment_eq_none_iff]
  omega

/-- The high channel has a zero divisor where it is used, its search fails, and the last segment is flat (R188). -/
theorem highChannel_eq_derr_iff :
    highChannel p h x = .derr ↔ x < p.hgSat ∧ (∀ i, i ≤ 13 → x ≤ calInt h i) ∧ calInt h 13 = calInt h 12 := by
  unfold highChannel
  split_ifs with used far
  case pos => exact ⟨nofun, fun ⟨_, near, _⟩ => absurd far (Int.not_lt.2 (near 0 (Nat.zero_le _)))⟩
  case neg =>
    rw [channelOf_eq_derr_iff]
    have near : x ≤ calInt h 0 := Int.not_lt.1 far
    cases found : findBucket h x with
    | some k =>
      obtain ⟨h1, h13, below, _⟩ := findBucket_some found
      exact ⟨fun flat => absurd flat (segment_ne_none_of_found found near),
        fun ⟨_, notAbove, _⟩ => absurd below (Int.not_lt.2 (notAbove k h13))⟩
    | none =>
      have all : ∀ i, i ≤ 13 → x ≤ calInt h i := fun i hi => by
        rcases Nat.eq_zero_or_pos i with rfl | pos
        · exact near
        · exact findBucket_none.1 found i pos hi
      exact (segment_eq_none_iff p h x 13).trans ⟨fun flat => ⟨used, all, flat⟩, fun ⟨_, _, flat⟩ => flat⟩
  case neg => exact ⟨nofun, fun ⟨h, _⟩ => absurd h used⟩

/-- The low channel has no zero divisor: it takes a segment only from a search that succeeds (R186). -/
theorem lowChannel_ne_derr (lg : Int) : lowChannel p l x lg ≠ .derr := by
  unfold lowChannel
  split_ifs with used far
  · exact nofun
  · cases found : findBucket l lg with
    | none => exact nofun
    | some k =>
      rw [Ne, channelOf_eq_derr_iff]
      exact segment_ne_none_of_found found (Int.not_lt.1 far)
  · exact nofun

/-- The high channel is off from the saturation threshold on (R182). -/
theorem highChannel_eq_off_iff : highChannel p h x = .off ↔ p.hgSat ≤ x := by
  unfold highChannel
  split_ifs with used far
  all_goals simpa using used

/-- The low channel is off up to the minimum threshold (R185). -/
theorem lowChannel_eq_off_iff {lg : Int} : lowChannel p l x lg = .off ↔ x ≤ p.hgMin := by
  unfold lowChannel
  split_ifs with used far
  · simpa using used
  · cases findBucket l lg <;> simpa using used
  · simpa using used

/-- Settles O33: the low channel never fails, and under legal parameters the channels are not both off (R187). -/
theorem estimateErrorIff : Obligations.EstimateErrorIff := by
  intro p h l hg lg legal
  obtain ⟨_, _, gain, _⟩ := r10_of_paramsLegal legal
  have oneUsed : ¬(highChannel p h hg.toNat = .off ∧ lowChannel p l hg.toNat lg.toNat = .off) := by
    rw [highChannel_eq_off_iff, lowChannel_eq_off_iff]
    omega
  rw [estimate, combine_eq_none_iff, or_iff_left, highChannel_eq_derr_iff, Nat.cast_lt]
  exact not_or.2 ⟨lowChannel_ne_derr _, oneUsed⟩

/-- With both tables at 0 a sample of 0 has no estimate, and a sample of 1 has one. -/
theorem estimateErrorIff_applies :
    let zeros : CalTable := Vector.replicate 14 0
    estimate Config.suggested zeros zeros 0 0 = none ∧ estimate Config.suggested zeros zeros 1 0 ≠ none :=
  have fails (hg : Sample) := estimateErrorIff Config.suggested (Vector.replicate 14 0) (Vector.replicate 14 0) hg 0 (by decide)
  ⟨(fails 0).2 ⟨by decide, by decide, by decide⟩, fun failed => absurd (((fails 1).1 failed).2.1 0 (by decide)) (by decide)⟩

end errors

section highOnly

/-- The high channel's estimate before its 8-bit reduction (`highChannel_eq_dist` ties it to the channel). -/
def highQuot (p : Params) (h : CalTable) (x : Int) : Int :=
  if calInt h 0 < x then 0 else segmentQuot p h x ((findBucket h x).getD 13)

/-- Above the first entry the high channel's estimate is 0 (R182). -/
theorem highQuot_of_far (far : calInt h 0 < x) : highQuot p h x = 0 := if_pos far

/-- Elsewhere it is that of the bucket found. -/
theorem highQuot_of_found (found : findBucket h x = some k) (near : x ≤ calInt h 0) :
    highQuot p h x = segmentQuot p h x k := by
  rw [highQuot, if_neg (Int.not_lt.2 near), found, Option.getD_some]

/-- The search succeeds above the last entry (R183). -/
theorem exists_bucket (above : calInt h 13 < x) : ∃ k, findBucket h x = some k :=
  Option.ne_none_iff_exists'.1 fun none => absurd above (Int.not_lt.2 (findBucket_none.1 none 13 (by decide) (by decide)))

/-- Below saturation and above the last entry the high channel gives its quotient, reduced to 8 bits (R182, R184). -/
theorem highChannel_eq_dist (used : x < p.hgSat) (above : calInt h 13 < x) :
    highChannel p h x = .dist (BitVec.ofInt 8 (highQuot p h x)) := by
  rw [highChannel, if_pos used]
  split
  case isTrue far => rw [highQuot_of_far far]; rfl
  case isFalse far =>
    have near : x ≤ calInt h 0 := Int.not_lt.1 far
    obtain ⟨k, found⟩ := exists_bucket above
    obtain ⟨below, above'⟩ := findBucket_bracket found near
    have notFlat : ¬2 * bucketRise h k = 0 := by
      unfold bucketRise
      omega
    rw [highQuot_of_found found near, found, Option.getD_some, segment, if_neg notFlat, channelOf]

/-- A bucket's quotient lies between the values at its ends (R192). -/
theorem highQuot_between (found : findBucket h x = some k) (near : x ≤ calInt h 0) :
    (p.distScale * (k - 1) / 2 : Nat) ≤ highQuot p h x ∧ highQuot p h x ≤ (p.distScale * k / 2 : Nat) := by
  obtain ⟨h1, h13, _⟩ := findBucket_some found
  obtain ⟨below, above⟩ := findBucket_bracket found near
  rw [highQuot_of_found found near]
  exact segmentBetweenEnds p h x k h1 h13 (Int.lt_of_lt_of_le below above) below above

/-- The value at a bucket's end grows with the bucket (R184). -/
theorem endValue_le {j k : Nat} (le : j ≤ k) : p.distScale * j / 2 ≤ p.distScale * k / 2 :=
  Nat.div_le_div_right (Nat.mul_le_mul_left _ le)

/-- The high channel's estimate lies between 0 and the value at the last entry (R192). -/
theorem highQuot_bounds (above : calInt h 13 < x) :
    0 ≤ highQuot p h x ∧ highQuot p h x ≤ (p.distScale * 13 / 2 : Nat) := by
  rcases Int.lt_or_le (calInt h 0) x with far | near
  · rw [highQuot_of_far far]
    omega
  · obtain ⟨k, found⟩ := exists_bucket above
    obtain ⟨_, h13, _⟩ := findBucket_some found
    obtain ⟨low, high⟩ := highQuot_between (p := p) found near
    have := endValue_le (p := p) h13
    omega

/-- The high channel's estimate falls as its sample rises: within a bucket along its segment, from one bucket to an earlier one
through the values at their ends, and to 0 above the first entry (R192). -/
theorem highQuot_antitone (above : calInt h 13 < x) (le : x ≤ x') : highQuot p h x' ≤ highQuot p h x := by
  rcases Int.lt_or_le (calInt h 0) x' with far | near'
  case inl =>
    rw [highQuot_of_far far]
    exact (highQuot_bounds above).1
  case inr =>
    have near := Int.le_trans le near'
    obtain ⟨k, found⟩ := exists_bucket above
    obtain ⟨k', found'⟩ := exists_bucket (Int.lt_of_lt_of_le above le)
    rcases Nat.eq_or_lt_of_le (findBucket_antitone le found found') with rfl | earlier
    · obtain ⟨below, above'⟩ := findBucket_bracket found near
      rw [highQuot_of_found found near, highQuot_of_found found' near']
      exact segmentQuot_antitone (Int.lt_of_lt_of_le below above') le
    · obtain ⟨low, _⟩ := highQuot_between (p := p) found near
      obtain ⟨_, high'⟩ := highQuot_between (p := p) found' near'
      have ends := endValue_le (p := p) (Nat.le_sub_one_of_lt earlier)
      omega

/-- A value of 8 bits is not reduced (R11). -/
theorem toNat_ofInt_of_lt {v : Int} (h0 : 0 ≤ v) (h : v < 256) : ((BitVec.ofInt 8 v).toNat : Int) = v := by
  rw [BitVec.toNat_ofInt]
  omega

/-- Up to the minimum threshold the estimate is the baseline offset and the high channel's, where neither needs the 8-bit reduction
(R187). -/
theorem estimate_toNat_of_highOnly (legal : paramsLegal p = true) (fits : p.distOff + p.distScale * 13 / 2 ≤ 255)
    (above : calInt h 13 < hg.toNat) (low : hg.toNat ≤ p.hgMin) (hd : estimate p h l hg lg = some d) :
    (d.toNat : Int) = p.distOff + highQuot p h hg.toNat := by
  obtain ⟨_, _, gain, _⟩ := r10_of_paramsLegal legal
  obtain ⟨nonneg, bound⟩ := highQuot_bounds (p := p) above
  rw [estimate, highChannel_eq_dist (by omega) above, lowChannel_eq_off_iff.2 (Int.ofNat_le.2 low), combine,
    toNat_ofInt_of_lt nonneg (by omega)] at hd
  rw [← Option.some.inj hd, toNat_ofInt_of_lt (by omega) (by omega)]

/-- Settles O34: both estimates are the high channel's, which falls. (A bucket that is found falls by itself, so that the table need
not fall elsewhere.) -/
theorem estimateMonotone : Obligations.EstimateMonotone := by
  intro p h l hg hg' lg lg' d d' legal fits _ above le low hd hd'
  have below : (hg.toNat : Int) ≤ hg'.toNat := Int.ofNat_le.2 le
  have value := estimate_toNat_of_highOnly legal fits above (Nat.le_trans le low) hd
  have value' := estimate_toNat_of_highOnly legal fits (Int.lt_of_lt_of_le above below) low hd'
  have falls := highQuot_antitone (p := p) above below
  omega

/-- Samples at the two ends of the range, 201 and `P_HG_MIN`, beside different low-gain samples. -/
theorem estimateMonotone_applies :
    ∃ d d', estimate Config.suggested fallingTable fallingTable 201 0 = some d
      ∧ estimate Config.suggested fallingTable fallingTable 700 1 = some d' ∧ d'.toNat ≤ d.toNat := by
  have falls : ∀ i < 14, 1 ≤ i → calInt fallingTable i < calInt fallingTable (i - 1) := by decide
  have far : estimate Config.suggested fallingTable fallingTable 201 0 = some 97 := by decide
  have near : estimate Config.suggested fallingTable fallingTable 700 1 = some 56 := by decide
  exact ⟨97, 56, far, near, estimateMonotone _ _ _ _ _ _ _ _ _ (by decide) (by decide)
    (fun i h1 h13 => falls i (by omega) h1) (by decide) (by decide) (by decide) far near⟩

end highOnly

end Sys2Proof.Machine
end

section
/-! DIST_EST and DIST_EST_RX (43_distance.md R188 to R190): each alone, and in a cycle, where the host's operation comes last and
meets what the estimate reads as the cycle found it (R130; 70_reset_and_hazards.md R266 step 6). -/

namespace Sys2Proof.Machine

variable {c : CycleInput} {i : Instr} {s t u : State} {adc : Sample} {hg lg : Sample} {d : Byte}

section commands

/-- `i` is an estimate command, and `hg` and `lg` are the samples it reads: the host's operands (R189), or those latched at the start
of the cycle (R190). -/
def Estimates (s : State) (i : Instr) (hg lg : Sample) : Prop :=
  (i = .distEst ∧ hg = s.dist.hgIn ∧ lg = s.dist.lgIn) ∨ (i = .distEstRx ∧ hg = s.cyc.rxoHg ∧ lg = s.cyc.rxoLg)

/-- Both commands put an estimate, and differ in the samples alone. -/
theorem exec_of_estimates (e : Estimates s i hg lg) :
    exec i s = .next (s.putEstimate (estimate s.params s.dist.calHigh s.dist.calLow hg lg)) := by
  rcases e with ⟨rfl, rfl, rfl⟩ | ⟨rfl, rfl, rfl⟩ <;> rfl

/-- An estimate command is no read, and runs in step 6. -/
theorem Estimates.writeOps_eq (e : Estimates s (decodeHost c.host) hg lg) : writeOps c = [decodeHost c.host] := by
  unfold writeOps
  rcases e with ⟨host, _⟩ | ⟨host, _⟩ <;> rw [host] <;> rfl

end commands

section cycle

/-- What RXD's and TXB's part of a cycle, from `s` to `t`, leaves as it was for an estimate (R130): what it reads, the samples latched
for the cycle among it (R190), and the flag it may set. -/
structure LeavesDist (s t : State) : Prop where
  params : t.params = s.params
  dist : t.dist = s.dist
  rxoHg : t.cyc.rxoHg = s.cyc.rxoHg
  rxoLg : t.cyc.rxoLg = s.cyc.rxoLg
  derr : t.st.flags.derr = s.st.flags.derr

theorem LeavesDist.refl (s : State) : LeavesDist s s := ⟨rfl, rfl, rfl, rfl, rfl⟩

theorem LeavesDist.trans (a : LeavesDist s t) (b : LeavesDist t u) : LeavesDist s u where
  params := b.params.trans a.params
  dist := b.dist.trans a.dist
  rxoHg := b.rxoHg.trans a.rxoHg
  rxoLg := b.rxoLg.trans a.rxoLg
  derr := b.derr.trans a.derr

/-- The timeout writes RXD alone (R112). -/
theorem afterTimeout_leavesDist (s : State) : LeavesDist s s.afterTimeout := by
  unfold State.afterTimeout
  split <;> exact ⟨rfl, rfl, rfl, rfl, rfl⟩

/-- Each row of an edge leaves the estimate's state alone, a dispatch included: it writes RXO, not the latched samples (R190). -/
theorem edgeEffect_leavesDist (adc : Sample) (k : EdgeKind) (s : State) : LeavesDist s (edgeEffect adc k s) := by
  cases k <;> exact ⟨rfl, rfl, rfl, rfl, rfl⟩

/-- The counter is RXD's. -/
theorem countRx_leavesDist (s : State) : LeavesDist s s.countRx where
  params := s.countRx_params
  dist := s.countRx_dist
  rxoHg := congrArg (·.rxoHg) s.countRx_cyc
  rxoLg := congrArg (·.rxoLg) s.countRx_cyc
  derr := congrArg (·.flags.derr) s.countRx_st

/-- Steps 2 to 4 leave to the estimate what they started with. -/
theorem rxOutcome_leavesDist (s : State) (c : CycleInput) : LeavesDist s (s.rxOutcome c) :=
  ((afterTimeout_leavesDist s).trans (edgeEffect_leavesDist ..)).trans (countRx_leavesDist _)

/-- TXB's operations write TXB, TransmitSuccess and the level of `run_eligible` (R141 to R149). -/
theorem execTx_leavesDist (hi : isTxOp i = true) (h : exec i s = .next t) : LeavesDist s t := by
  cases i with
  | tick =>
    have h' : execTick s = .next t := h
    unfold execTick execTxCompare at h'
    split_ifs at h'
    all_goals cases h'; exact ⟨rfl, rfl, rfl, rfl, rfl⟩
  | txCompare | rspFrame | rspNone | doneOk | doneFail =>
    cases h
    split
    all_goals exact ⟨rfl, rfl, rfl, rfl, rfl⟩
  | runEligible => cases h; exact ⟨rfl, rfl, rfl, rfl, rfl⟩
  | _ => cases hi

/-- A step without reset ends with the host's operation of step 6, which meets the estimate's state as it was after the host read. -/
theorem step_writeOps (h : step s = .next t) (hr : inReset s.nextInput = false) :
    ∃ v w, LeavesDist (s.afterRead s.nextInput) v ∧ runOps (writeOps s.nextInput) v = .next w ∧ t = w.endCycle := by
  obtain ⟨_, w, hw, rfl⟩ := step_eq_next_iff.1 h
  rw [runCycle_of_not_inReset hr] at hw
  obtain ⟨u, hu, hth⟩ := (andThen_eq_next_iff ..).1 hw
  rw [txHostPhase, runOps_append] at hth
  obtain ⟨v, hv, ht⟩ := (andThen_eq_next_iff ..).1 hth
  have received : LeavesDist (s.afterRead s.nextInput) u :=
    rxOutcome_of_rxPhase hr timeoutDue_afterRead hu ▸ rxOutcome_leavesDist _ _
  have sent : LeavesDist u v :=
    runOps_keeps (fun _ hi _ _ keep he => keep.trans (execTx_leavesDist (isTxOp_of_mem_txPhase hi) he)) (LeavesDist.refl u) hv
  exact ⟨v, w, received.trans sent, ht, rfl⟩

/-- A step without reset in which the host gives an estimate command puts, last, the estimate of `S`: for DIST_EST_RX, of the samples
in `S`'s RXO (R190). -/
theorem step_of_estimates (h : step s = .next t) (hr : inReset s.nextInput = false)
    (e : Estimates (s.afterRead s.nextInput) (decodeHost s.nextInput.host) hg lg) :
    ∃ v, LeavesDist (s.afterRead s.nextInput) v
      ∧ t = (v.putEstimate (estimate s.params s.dist.calHigh s.dist.calLow hg lg)).endCycle := by
  obtain ⟨v, w, leaves, hw, rfl⟩ := step_writeOps h hr
  have e' : Estimates v (decodeHost s.nextInput.host) hg lg := by
    unfold Estimates
    rw [leaves.dist, leaves.rxoHg, leaves.rxoLg]
    exact e
  rw [e.writeOps_eq, runOps_cons, exec_of_estimates e', andThen_next, runOps_nil, leaves.params, leaves.dist] at hw
  cases hw
  exact ⟨v, leaves, rfl⟩

end cycle

/-- Settles O35: alone, what `putEstimate` says; in a cycle, the estimate put last. -/
theorem distanceCommands : Obligations.DistanceCommands := by
  refine ⟨fun s i hg lg e => ?alone, fun s t hg lg h hr e => ?cycle⟩
  case alone =>
    rw [exec_of_estimates e]
    refine ⟨fun d value => ?_, fun fails => ⟨Config.draw8 s.env.draws, ?_⟩⟩
    · rw [value, State.putEstimate_some]
    · rw [fails]
      rfl
  case cycle =>
    obtain ⟨v, leaves, rfl⟩ := step_of_estimates h hr e
    refine ⟨fun d value => ?_, fun fails => ?_⟩
    · rw [value]
      exact ⟨congrArg (fun x : Dist => { x with out := d }) leaves.dist, leaves.derr⟩
    · rw [fails]
      exact ⟨rfl, Config.draw8 v.env.draws, congrArg (fun x : Dist => { x with out := Config.draw8 v.env.draws }) leaves.dist⟩

/-- The cycle of the last stop bit of a frame, with DIST_EST_RX beside it: RXO holds the sample 260, and RXD the frame's sample 700. -/
def estimateAtDispatch : State :=
  { lastStopDue with
    rxd := { lastStopDue.rxd with hg := 700 }
    rxo := { lastStopDue.rxo with hg := 260 }
    dist := { lastStopDue.dist with calHigh := fallingTable } }.withInputs
    [{ evt := 0x02, adc := 0, rnd := 0, host := some 0x820003 }]

/-- Such a cycle dispatches the sample 700, and estimates from 260. -/
theorem distanceCommands_applies :
    ∃ t, step estimateAtDispatch = .next t ∧ t.rxo.hg = 700 ∧ t.dist.out = 93 := by
  have goes : step estimateAtDispatch = .next _ := rfl
  obtain ⟨value, _⟩ := distanceCommands.2 _ _ 260 0 goes rfl (.inr ⟨by decide, rfl, rfl⟩)
  exact ⟨_, goes, rfl, congrArg Dist.out (value 93 (by decide)).1⟩

/-- A sample of 0 under a table of zeros is EstimatorError, alone and in a cycle. -/
theorem distanceCommands_applies_derr :
    (∃ t, exec .distEst State.reset = .next t ∧ t.st.flags.derr = true)
    ∧ ∃ t, step (State.reset.withInputs [{ evt := 0x02, adc := 0, rnd := 0, host := some 0x820002 }]) = .next t
      ∧ t.st.flags.derr = true := by
  have goes : step (State.reset.withInputs [{ evt := 0x02, adc := 0, rnd := 0, host := some 0x820002 }]) = .next _ := rfl
  obtain ⟨v, alone⟩ := (distanceCommands.1 State.reset .distEst 0 0 (.inl ⟨rfl, rfl, rfl⟩)).2 (by decide)
  obtain ⟨_, fails⟩ := distanceCommands.2 _ _ 0 0 goes rfl (.inl ⟨by decide, rfl, rfl⟩)
  exact ⟨⟨_, alone, rfl⟩, ⟨_, goes, (fails (by decide)).1⟩⟩

end Sys2Proof.Machine
end

section
/-! Host access (44_host_access.md R210 to R224): what each write leaves in the register it names and in what every address then
reads, and that a read sets `h_rdata` alone. The host's commands of CRC and DIST stand with their units. -/

namespace Sys2Proof.Machine

section calibration

variable {tbl : CalTable} {v m : Word} {base n : Nat}

/-- The table CAL_HIGH is seen at its fourteen addresses and nowhere else (R51). -/
theorem memRead_with_calHigh (s : State) (tbl : CalTable) (a : Addr) :
    memRead { s with dist := { s.dist with calHigh := tbl } } a =
      if 0x40 ≤ a.toNat ∧ a.toNat ≤ 0x4D then calEntry tbl (a.toNat - 0x40) else memRead s a := by
  by_cases inside : 0x40 ≤ a.toNat ∧ a.toNat ≤ 0x4D
  · simp only [memRead]
    rw [if_neg (by omega), if_neg (by omega), if_neg (by omega), if_pos inside, if_pos inside]
  · simp only [memRead, if_neg inside]
    rfl

/-- The table CAL_LOW is seen at its fourteen addresses and nowhere else (R51). -/
theorem memRead_with_calLow (s : State) (tbl : CalTable) (a : Addr) :
    memRead { s with dist := { s.dist with calLow := tbl } } a =
      if 0x50 ≤ a.toNat ∧ a.toNat ≤ 0x5D then calEntry tbl (a.toNat - 0x50) else memRead s a := by
  by_cases inside : 0x50 ≤ a.toNat ∧ a.toNat ≤ 0x5D
  · simp only [memRead]
    rw [if_neg (by omega), if_neg (by omega), if_neg (by omega), if_neg (by omega), if_pos inside, if_pos inside]
  · simp only [memRead, if_neg inside]
    rfl

/-- A table of fourteen entries seen from `base` on, with one entry written: where the value `m` read before was the entry of the
address, the write is seen at the entry's own address alone. -/
theorem entryRead_setCalEntry (i : Fin 14) (before : base ≤ n ∧ n ≤ base + 13 → m = calEntry tbl (n - base)) :
    (if base ≤ n ∧ n ≤ base + 13 then calEntry (setCalEntry tbl i v) (n - base) else m) =
      if n = base + i.val then v else m := by
  by_cases inside : base ≤ n ∧ n ≤ base + 13
  · have own : n - base = i.val ↔ n = base + i.val := by omega
    simp only [if_pos inside, calEntry_setCalEntry tbl v (show n - base < 14 by omega), own, before inside]
  · rw [if_neg inside, if_neg (by omega)]

/-- Settles O44: the table is seen at its own addresses alone, and in it the entry written differs alone. -/
theorem calibrationWritesStore : Obligations.CalibrationWritesStore := by
  refine fun s i v => ⟨⟨_, rfl, fun a => ?high, rfl⟩, ⟨_, rfl, fun a => ?low, rfl⟩⟩
  case high =>
    rw [memRead_with_calHigh]
    exact entryRead_setCalEntry i fun inside => (memRead_with_calHigh s s.dist.calHigh a).trans (if_pos inside)
  case low =>
    rw [memRead_with_calLow]
    exact entryRead_setCalEntry i fun inside => (memRead_with_calLow s s.dist.calLow a).trans (if_pos inside)

end calibration

/-- Settles O42: the flags after the write are R212's, flag by flag. -/
theorem statusWriteClears : Obligations.StatusWriteClears := fun s clr =>
  ⟨flagsAfterClear s.cyc.raised clr s.st.flags, getFlag_flagsAfterClear s.cyc.raised s.st.flags clr, rfl⟩

/-- Settles O43: each write is its one assignment, and its address reads the element assigned. -/
theorem configWritesStore : Obligations.ConfigWritesStore := fun _ _ _ _ =>
  ⟨⟨_, rfl, rfl, irqenWord_toNat _⟩, ⟨_, rfl, rfl, toNat_of_eq_setWidth rfl⟩, ⟨_, rfl, rfl, toNat_of_eq_setWidth rfl⟩,
    ⟨_, rfl, rfl, rfl⟩⟩

section illegal

variable {i : Instr} {s : State} {op : Byte} {a : Addr}

/-- A reserved command and a write that no register takes raise CommandError, and do nothing more (R216, R221, R222). -/
theorem exec_of_illegalWrite (hi : i ∈ [Instr.cmdRsv op, .wrRo a, .wrRsv a]) :
    exec i s = .next (s.raiseCause .commandError) := by
  simp only [List.mem_cons, List.not_mem_nil, or_false] at hi
  rcases hi with rfl | rfl | rfl <;> rfl

/-- Settles O45: raising CommandError sets its flag and its place in what the cycle remembers. -/
theorem illegalWritesOnlyFlag : Obligations.IllegalWritesOnlyFlag :=
  fun _ _ _ => ⟨fun _ hi => exec_of_illegalWrite hi, rfl⟩

end illegal

section reads

variable {i : Instr} {s : State} {a : Addr}

/-- The rows of an access that reads no register (R223, R224). -/
theorem exec_of_zeroRead (hi : i ∈ [Instr.rdWo a, .rdRsv a, .hbusIdle]) : exec i s = .next (s.readOut 0) := by
  simp only [List.mem_cons, List.not_mem_nil, or_false] at hi
  rcases hi with rfl | rfl | rfl <;> rfl

/-- A read of a write-only or reserved address is RD_WO or RD_RSV. -/
theorem decodeRead_mem_zeroReads (h : a.toNat ∈ woAddrs ∨ a.toNat ∈ rsvAddrs) :
    decodeRead a ∈ [Instr.rdWo a, .rdRsv a, .hbusIdle] := by
  rcases h with wo | rsv
  · simp [decodeRead_writeOnly (List.contains_iff_mem.2 wo)]
  · simp [decodeRead_reserved (List.contains_iff_mem.2 rsv)]

/-- `MemRead` of an address without a readable register is 0 (R223): it is what the decoder's row for the read gives. -/
theorem memRead_eq_zero (h : a.toNat ∈ woAddrs ∨ a.toNat ∈ rsvAddrs) : memRead s a = 0 := by
  have read : Host.Outcome.next (s.readOut (memRead s a)) = .next (s.readOut 0) :=
    (exec_decodeRead a s).symm.trans (exec_of_zeroRead (decodeRead_mem_zeroReads h))
  injection read with same
  exact congrArg State.hRdata same

/-- Settles O46: every row of a read sets the port, and the port is no register. -/
theorem readsHaveNoEffect : Obligations.ReadsHaveNoEffect :=
  fun _ _ => ⟨rfl, fun _ hi => exec_of_zeroRead hi, memRead_eq_zero⟩

/-- In any state CMD, CRC_DATA and the ends of the reserved ranges read 0. -/
theorem readsHaveNoEffect_applies (s : State) :
    ∀ a ∈ [(0x02 : Addr), 0x03, 0x0F, 0x14, 0x1F, 0x2C, 0x3F, 0x4E, 0x5E, 0x7F], memRead s a = 0 := by
  intro a ha
  have unread : a.toNat ∈ woAddrs ∨ a.toNat ∈ rsvAddrs := by
    revert a
    decide
  obtain ⟨_, _, reads_zero⟩ := readsHaveNoEffect s a
  exact reads_zero unread

end reads

end Sys2Proof.Machine
end

section
/-! The status flags and the pulses over a cycle (60_exceptions.md R230, R233; 10_state.md R29): RXD, TXB and the host's operation raise
causes one after the other, each by what `S` and the inputs say, and the host's clear, which comes last, spares them. -/

namespace Sys2Proof.Machine

variable {c : CycleInput} {i : Instr} {s t u v : State} {k : Cause} {A B : Set Cause} {p : Prop}

section raises

/-- From `s` to `t`, inside a cycle, exactly the causes of `A` are raised and no flag is cleared: the cycle remembers them, and their
flags and pulses are set (R29, R230). -/
structure Raises (A : Set Cause) (s t : State) : Prop where
  raised : ∀ k, getFlag t.cyc.raised k = true ↔ k ∈ A ∨ getFlag s.cyc.raised k = true
  flag : ∀ k, getFlag t.st.flags k = true ↔ k ∈ A ∨ getFlag s.st.flags k = true
  dispPulse : t.st.dispPulse = true ↔ .frameDispatched ∈ A ∨ s.st.dispPulse = true
  txsPulse : t.st.txsPulse = true ↔ .transmitSuccess ∈ A ∨ s.st.txsPulse = true

/-- What leaves the flags, the pulses and the cycle's causes as they were raises nothing; it may write IRQEN. -/
theorem raises_empty (hst : t.st = { s.st with irqen := t.st.irqen }) (hraised : t.cyc.raised = s.cyc.raised) :
    Raises ∅ s t := by
  constructor
  · simp [hraised]
  all_goals
    rw [hst]
    simp

/-- Two parts of a cycle raise what either does. -/
theorem Raises.trans (a : Raises A s t) (b : Raises B t u) : Raises (A ∪ B) s u where
  raised k := by rw [b.raised, a.raised, Set.mem_union, or_left_comm, or_assoc]
  flag k := by rw [b.flag, a.flag, Set.mem_union, or_left_comm, or_assoc]
  dispPulse := by rw [b.dispPulse, a.dispPulse, Set.mem_union, or_left_comm, or_assoc]
  txsPulse := by rw [b.txsPulse, a.txsPulse, Set.mem_union, or_left_comm, or_assoc]

/-- `raise` of a cause without a pulse (R230). -/
theorem raiseCause_raises (hd : k ≠ .frameDispatched) (hx : k ≠ .transmitSuccess) (s : State) :
    Raises {k} s (s.raiseCause k) := by
  constructor <;> simp [hd.symm, hx.symm]

/-- A dispatch raises its cause with its pulse (R124). -/
theorem dispatchFrame_raises (s : State) :
    Raises {.frameDispatched} s (s.dispatchFrame.raiseCause .frameDispatched) := by
  constructor <;> simp

/-- A send's success raises its cause with its pulse (R147). -/
theorem sendDone_raises (s : State) : Raises {.transmitSuccess} s (s.sendDone.raiseCause .transmitSuccess) := by
  constructor <;> simp

/-- The cause `k` where `p` holds, and none elsewhere. -/
def causeIf (k : Cause) (p : Prop) : Set Cause := {j | j = k ∧ p}

@[simp] theorem mem_causeIf_iff {j : Cause} : j ∈ causeIf k p ↔ j = k ∧ p := Iff.rfl

theorem causeIf_of (hp : p) : causeIf k p = {k} := Set.ext fun _ => and_iff_left hp

theorem causeIf_of_not (hp : ¬p) : causeIf k p = ∅ := Set.ext fun _ => iff_of_false (fun h => hp h.2) id

end raises

section rxd

/-- Of the rows of an edge the dispatch alone raises a cause (R114 to R125). -/
theorem edgeEffect_raises (adc : Sample) (k : EdgeKind) (s : State) :
    Raises (causeIf .frameDispatched (k = .stopDispatch)) s (edgeEffect adc k s) := by
  cases k with
  | stopDispatch =>
    rw [causeIf_of rfl, ← Set.empty_union {Cause.frameDispatched}]
    exact (raises_empty (t := s.stopBit.storeLast.rxReset) rfl rfl).trans (dispatchFrame_raises _)
  | _ =>
    rw [causeIf_of_not (by decide)]
    exact raises_empty rfl rfl

/-- The timeout raises no cause (R112). -/
theorem afterTimeout_raises (s : State) : Raises ∅ s s.afterTimeout := by
  unfold State.afterTimeout
  split <;> exact raises_empty rfl rfl

/-- Nor does the counter (R126). -/
theorem countRx_raises (s : State) : Raises ∅ s s.countRx :=
  raises_empty (by rw [State.countRx_st]) (by rw [State.countRx_cyc])

/-- Steps 2 to 4 raise FrameDispatched exactly if the cycle's edge, which comes after the timeout, is EDGE_STOP_DISPATCH. -/
theorem rxOutcome_raises (s : State) (c : CycleInput) :
    Raises (causeIf .frameDispatched (cycleRow c s.afterTimeout = .stopDispatch)) s (s.rxOutcome c) := by
  have parts : Raises _ s (s.rxOutcome c) :=
    ((afterTimeout_raises s).trans (edgeEffect_raises c.adc (cycleRow c s.afterTimeout) _)).trans (countRx_raises _)
  rwa [Set.empty_union, Set.union_empty] at parts

/-- That is what FrameDispatched asks of `S`: after a timeout RXD awaits a start bit, and no edge is a stop bit (R113); without one
the edge meets RXD as it was. -/
theorem cycleRow_eq_stopDispatch_iff :
    cycleRow c (s.afterRead c).afterTimeout = .stopDispatch ↔ causeRaised s c .frameDispatched := by
  cases due : timeoutDue s with
  | true =>
    rw [afterTimeout_of_due (s := s.afterRead c) due, cycleRow_eq_iff (by decide)]
    refine iff_of_false (fun ⟨_, row⟩ => ?_) fun ⟨notDue, _⟩ => ?_
    · exact Bool.true_eq_false.mp (await_of_edgeKind row (by decide) (by decide))
    · exact Bool.true_eq_false.mp (due.symm.trans notDue)
  | false =>
    have row : edgeKind (s.afterRead c) = edgeKind s := rfl
    rw [afterTimeout_of_not_due (s := s.afterRead c) due, cycleRow, row]
    cases he : c.evt.getLsbD 1 with
    | true => exact ⟨fun stop => ⟨due, he, stop⟩, fun ⟨_, _, stop⟩ => stop⟩
    | false => exact iff_of_false nofun fun ⟨_, edge, _⟩ => Bool.false_ne_true (he.symm.trans edge)

end rxd

section txb

/-- Of TXB's operations DONE_OK alone raises a cause (R141 to R149). -/
theorem execTx_raises (hi : isTxOp i = true) (hne : i ≠ .doneOk) (h : exec i s = .next t) : Raises ∅ s t := by
  cases i with
  | tick =>
    have h' : execTick s = .next t := h
    unfold execTick execTxCompare at h'
    split_ifs at h'
    all_goals cases h'; exact raises_empty rfl rfl
  | doneOk => exact absurd rfl hne
  | txCompare | rspFrame | rspNone | doneFail =>
    cases h
    split
    all_goals exact raises_empty rfl rfl
  | runEligible => cases h; exact raises_empty rfl rfl
  | _ => cases hi

/-- What a cycle runs for TXB is a TXB operation, which `txOps_eq` lists. -/
theorem isTxOp_of_txOperation (hr : inReset c = false) (h : txOperation s c = some i) : isTxOp i = true :=
  isTxOp_of_mem_txOps (c := c) (s := s) (by simp [txOps_eq hr, h])

/-- TXB's operation of a cycle leaves what an estimate reads (R130, R190). -/
theorem txOperation_leavesDist (hr : inReset c = false) (h : runOption (txOperation s c) u = .next v) : LeavesDist u v := by
  cases op : txOperation s c with
  | none =>
    rw [op] at h
    cases h
    exact LeavesDist.refl u
  | some i =>
    rw [op] at h
    exact execTx_leavesDist (isTxOp_of_txOperation hr op) h

/-- TXB's operation of a cycle is DONE_OK exactly if a send succeeds (R147). -/
theorem txOperation_eq_doneOk_iff : txOperation s c = some .doneOk ↔ causeRaised s c .transmitSuccess := by
  unfold txOperation causeRaised
  cases hs : s.txb.state with
  | idle | waitFrame => split_ifs <;> simp
  | waitSend => simp

/-- TXB's operation of a cycle raises TransmitSuccess exactly if a send succeeds. -/
theorem txOperation_raises (hr : inReset c = false) (hu : u.txb = s.txb) (h : runOption (txOperation s c) u = .next v) :
    Raises (causeIf .transmitSuccess (causeRaised s c .transmitSuccess)) u v := by
  rw [← txOperation_eq_doneOk_iff]
  cases op : txOperation s c with
  | none =>
    rw [op] at h
    cases h
    rw [causeIf_of_not nofun]
    exact raises_empty rfl rfl
  | some i =>
    rw [op] at h
    by_cases done : i = .doneOk
    · subst done
      have sending : u.txb.state = .waitSend := hu ▸ (txOperation_eq_doneOk_iff.1 op).1
      have goes : exec .doneOk u = .next v := h
      rw [(exec_done u 0).1, if_pos sending] at goes
      cases goes
      rw [causeIf_of rfl]
      exact sendDone_raises u
    · rw [causeIf_of_not fun same => done (Option.some.inj same)]
      exact execTx_raises (isTxOp_of_txOperation hr op) done h

end txb

section host

/-- The causes the host's operation raises in the state it meets (R188, R216, R221, R222); `execHost_raises` ties them to it. -/
def hostCauses (s : State) : Instr → Set Cause
  | .distEst => causeIf .estimatorError (estimate s.params s.dist.calHigh s.dist.calLow s.dist.hgIn s.dist.lgIn = none)
  | .distEstRx => causeIf .estimatorError (estimate s.params s.dist.calHigh s.dist.calLow s.cyc.rxoHg s.cyc.rxoLg = none)
  | .cmdRsv _ | .wrRo _ | .wrRsv _ => {.commandError}
  | _ => ∅

/-- An estimate raises EstimatorError exactly if it has no value (R188, R189). -/
theorem putEstimate_raises (r : Option Byte) (s : State) :
    Raises (causeIf .estimatorError (r = none)) s (s.putEstimate r) := by
  cases r with
  | some d =>
    rw [causeIf_of_not nofun]
    exact raises_empty rfl rfl
  | none =>
    rw [causeIf_of rfl, ← Set.empty_union {Cause.estimatorError}]
    exact (raises_empty (t := s.drawDist) rfl rfl).trans (raiseCause_raises (by decide) (by decide) _)

/-- Every host operation but the W1C write raises its causes and clears nothing. -/
theorem execHost_raises (hi : isHostOp i = true) (hw : ∀ clr, i ≠ .wrStatus clr) (h : exec i s = .next t) :
    Raises (hostCauses s i) s t := by
  cases i with
  | wrStatus clr => exact absurd rfl (hw clr)
  | distEst | distEstRx => cases h; exact putEstimate_raises _ s
  | cmdRsv | wrRo | wrRsv => cases h; exact raiseCause_raises (by decide) (by decide) s
  | _ => first | (cases hi; done) | (cases h; exact raises_empty rfl rfl)

/-- A read raises no cause (R223). -/
theorem hostCauses_of_isHostRead (hi : isHostRead i = true) : hostCauses s i = ∅ := by
  cases i with
  | rd | rdWo | rdRsv | hbusIdle => rfl
  | _ => cases hi

/-- Step 6 raises the causes of the host's operation, where that is not the W1C write. -/
theorem runOps_writeOps_raises (hw : ∀ clr, decodeHost c.host ≠ .wrStatus clr) (h : runOps (writeOps c) s = .next t) :
    Raises (hostCauses s (decodeHost c.host)) s t := by
  unfold writeOps at h
  split at h
  case isTrue read =>
    cases h
    rw [hostCauses_of_isHostRead read]
    exact raises_empty rfl rfl
  case isFalse =>
    have goes : exec (decodeHost c.host) s = .next t := (runOps_toList (some (decodeHost c.host)) s).symm.trans h
    exact execHost_raises (decodeHost_isHostOp _) hw goes

/-- RXD and TXB leave what an estimate reads (R130, R190). -/
theorem LeavesDist.hostCauses_eq (leaves : LeavesDist s t) (i : Instr) : hostCauses t i = hostCauses s i := by
  cases i with
  | distEst | distEstRx => simp only [hostCauses, leaves.params, leaves.dist, leaves.rxoHg, leaves.rxoLg]
  | _ => rfl

/-- The host raises neither of the causes with a pulse. -/
theorem eq_of_mem_hostCauses (h : k ∈ hostCauses s i) : k = .estimatorError ∨ k = .commandError := by
  cases i with
  | distEst | distEstRx => exact .inl h.1
  | cmdRsv | wrRo | wrRsv => exact .inr h
  | _ => cases h

/-- Which operations raise EstimatorError (R188 to R190). -/
theorem estimatorError_mem_hostCauses_iff :
    .estimatorError ∈ hostCauses s i ↔
      (i = .distEst ∧ estimate s.params s.dist.calHigh s.dist.calLow s.dist.hgIn s.dist.lgIn = none)
      ∨ (i = .distEstRx ∧ estimate s.params s.dist.calHigh s.dist.calLow s.cyc.rxoHg s.cyc.rxoLg = none) := by
  cases i <;> simp [hostCauses]

/-- Which operations raise CommandError (R216, R221, R222). -/
theorem commandError_mem_hostCauses_iff :
    .commandError ∈ hostCauses s i ↔ (∃ op, i = .cmdRsv op) ∨ ∃ a, i = .wrRo a ∨ i = .wrRsv a := by
  cases i <;> simp [hostCauses]

end host

section cycle

/-- The causes RXD and TXB raise in a cycle that starts in `s`. -/
def unitCauses (s : State) (c : CycleInput) : Set Cause :=
  causeIf .frameDispatched (causeRaised s c .frameDispatched) ∪ causeIf .transmitSuccess (causeRaised s c .transmitSuccess)

/-- The causes of RXD, TXB and the host's operation are those `causeRaised` names. -/
theorem mem_unitCauses_or_hostCauses_iff :
    k ∈ unitCauses s c ∪ hostCauses (s.afterRead c) (decodeHost c.host) ↔ causeRaised s c k := by
  have host_only (hd : k ≠ .estimatorError) (hc : k ≠ .commandError) :
      k ∉ hostCauses (s.afterRead c) (decodeHost c.host) :=
    fun h => (eq_of_mem_hostCauses h).elim hd hc
  rw [Set.mem_union]
  cases k with
  | frameDispatched => simp [unitCauses, host_only (by decide) (by decide)]
  | transmitSuccess => simp [unitCauses, host_only (by decide) (by decide)]
  | estimatorError =>
    rw [or_iff_right (by simp [unitCauses])]
    exact estimatorError_mem_hostCauses_iff
  | commandError =>
    rw [or_iff_right (by simp [unitCauses])]
    exact commandError_mem_hostCauses_iff

/-- A cycle without reset up to its host write: RXD and TXB have raised their causes, and left what an estimate reads. -/
theorem runCycle_beforeWrite (hr : inReset c = false) (h : runCycle c s.beginCycle = .next t) :
    ∃ v, Raises (unitCauses s c) (s.afterRead c) v ∧ LeavesDist (s.afterRead c) v ∧ runOps (writeOps c) v = .next t := by
  rw [runCycle_of_not_inReset hr] at h
  obtain ⟨u, hu, hth⟩ := (andThen_eq_next_iff ..).1 h
  cases rxOutcome_of_rxPhase hr timeoutDue_afterRead hu
  rw [txHostPhase_rxOutcome hr] at hth
  obtain ⟨v, hv, ht⟩ := (andThen_eq_next_iff ..).1 hth
  have received := rxOutcome_raises (s.afterRead c) c
  rw [cycleRow_eq_stopDispatch_iff] at received
  have level : Raises ∅ ((s.afterRead c).rxOutcome c) (s.atDecision c) := raises_empty rfl rfl
  have sent := (received.trans level).trans (txOperation_raises hr State.atDecision_txb hv)
  rw [Set.union_empty] at sent
  have decision : LeavesDist ((s.afterRead c).rxOutcome c) (s.atDecision c) := ⟨rfl, rfl, rfl, rfl, rfl⟩
  exact ⟨v, sent, ((rxOutcome_leavesDist _ c).trans decision).trans (txOperation_leavesDist hr hv), ht⟩

/-- R212, as a raised cause that wins over a clear. -/
theorem flagAfterClear_eq_true_iff (raised clr old : Bool) :
    flagAfterClear raised clr old = true ↔ raised = true ∨ ¬clr = true ∧ old = true := by
  cases raised <;> cases clr <;> simp [flagAfterClear]

/-- The host clears the flag of `k` (R212). -/
def hostClears (c : CycleInput) (k : Cause) : Prop :=
  ∃ clr, decodeHost c.host = .wrStatus clr ∧ clr.getLsbD (causeCode k - 1) = true

/-- The status after a cycle with the inputs `c` that starts in `s` (R29, R233). -/
structure StatusAfter (s : State) (c : CycleInput) (t : State) : Prop where
  flag : ∀ k, getFlag t.st.flags k = true ↔ causeRaised s c k ∨ ¬hostClears c k ∧ getFlag s.st.flags k = true
  dispPulse : t.st.dispPulse = true ↔ causeRaised s c .frameDispatched
  txsPulse : t.st.txsPulse = true ↔ causeRaised s c .transmitSuccess

/-- The start of a cycle has raised nothing, and both pulses fall there (R29). -/
theorem Raises.iff_afterRead (r : Raises A (s.afterRead c) t) :
    (∀ k, getFlag t.cyc.raised k = true ↔ k ∈ A) ∧ (∀ k, getFlag t.st.flags k = true ↔ k ∈ A ∨ getFlag s.st.flags k = true)
    ∧ (t.st.dispPulse = true ↔ .frameDispatched ∈ A) ∧ (t.st.txsPulse = true ↔ .transmitSuccess ∈ A) := by
  have none_raised (k : Cause) : getFlag (s.afterRead c).cyc.raised k ≠ true := by
    cases k <;> exact Bool.false_ne_true
  exact ⟨fun k => (r.raised k).trans (or_iff_left (none_raised k)), r.flag,
    r.dispPulse.trans (or_iff_left Bool.false_ne_true), r.txsPulse.trans (or_iff_left Bool.false_ne_true)⟩

/-- A cycle in which the host clears nothing. -/
theorem Raises.statusAfter (r : Raises A (s.afterRead c) t) (hA : ∀ k, k ∈ A ↔ causeRaised s c k)
    (hw : ∀ clr, decodeHost c.host ≠ .wrStatus clr) : StatusAfter s c t := by
  obtain ⟨_, flag, disp, txs⟩ := r.iff_afterRead
  have kept (k : Cause) : ¬hostClears c k := fun ⟨clr, hc, _⟩ => hw clr hc
  exact ⟨fun k => by rw [flag, hA, and_iff_right (kept k)], disp.trans (hA _), txs.trans (hA _)⟩

/-- A cycle that the host ends with its clear: it spares the causes raised before it (R212). -/
theorem Raises.statusAfter_clearCauses {clr : BitVec 4} (r : Raises A (s.afterRead c) t)
    (hA : ∀ k, k ∈ A ↔ causeRaised s c k) (hw : decodeHost c.host = .wrStatus clr) :
    StatusAfter s c (t.clearCauses clr) := by
  obtain ⟨raised, flag, disp, txs⟩ := r.iff_afterRead
  refine ⟨fun k => ?_, disp.trans (hA _), txs.trans (hA _)⟩
  have clears : hostClears c k ↔ clr.getLsbD (causeCode k - 1) = true :=
    ⟨fun ⟨_, hc, bit⟩ => Instr.wrStatus.inj (hc.symm.trans hw) ▸ bit, fun bit => ⟨clr, hw, bit⟩⟩
  rw [State.clearCauses_st, getFlag_flagsAfterClear, flagAfterClear_eq_true_iff, raised, flag, hA, clears]
  tauto

/-- R233 for a cycle without reset: the causes raised in it, then the host's clear or its other operation. -/
theorem runCycle_statusAfter (hr : inReset c = false) (h : runCycle c s.beginCycle = .next t) : StatusAfter s c t := by
  obtain ⟨v, before, leaves, hw⟩ := runCycle_beforeWrite hr h
  by_cases clear : ∃ clr, decodeHost c.host = .wrStatus clr
  · obtain ⟨clr, host⟩ := clear
    have write : runOps (writeOps c) v = .next (v.clearCauses clr) := by
      rw [writeOps, host]
      rfl
    rw [write] at hw
    cases hw
    refine before.statusAfter_clearCauses (fun k => ?_) host
    rw [← mem_unitCauses_or_hostCauses_iff, host]
    exact (or_iff_left (Set.notMem_empty k)).symm
  · have noClear : ∀ clr, decodeHost c.host ≠ .wrStatus clr := fun clr host => clear ⟨clr, host⟩
    have after := before.trans (runOps_writeOps_raises noClear hw)
    rw [leaves.hostCauses_eq] at after
    exact after.statusAfter (fun _ => mem_unitCauses_or_hostCauses_iff) noClear

/-- A step without reset is such a cycle. -/
theorem step_statusAfter (h : step s = .next t) (hr : inReset s.nextInput = false) : StatusAfter s s.nextInput t := by
  obtain ⟨_, w, hw, rfl⟩ := step_eq_next_iff.1 h
  obtain ⟨flag, disp, txs⟩ := runCycle_statusAfter hr hw
  exact ⟨flag, disp, txs⟩

end cycle

/-- Settles O51: `StatusAfter` says of each flag when it is set, and the three cases of the statement are its cases. -/
theorem raisedCauseWins : Obligations.RaisedCauseWins := by
  intro s t h hr
  have after := step_statusAfter h hr
  refine ⟨fun k => ⟨fun cause => (after.flag k).2 (.inl cause), fun noCause => ⟨fun clears => ?_, fun kept => ?_⟩⟩,
    after.dispPulse, after.txsPulse⟩
  · refine Bool.eq_false_of_not_eq_true fun isSet => ?_
    rcases (after.flag k).1 isSet with cause | ⟨kept, _⟩
    · exact noCause cause
    · exact kept clears
  · exact Bool.eq_iff_iff.2 ((after.flag k).trans ((or_iff_right noCause).trans (and_iff_right kept)))

/-- Settles O50: by `StatusAfter` a flag that was set and that the host does not clear is set. -/
theorem flagsAreSticky : Obligations.FlagsAreSticky := by
  intro s t k h hr isSet spared
  refine ((step_statusAfter h hr).flag k).2 (.inr ⟨fun ⟨clr, host, bit⟩ => ?_, isSet⟩)
  exact Bool.false_ne_true ((spared clr host).symm.trans bit)

/-- The cycle of the last stop bit of a good frame, with the four flags set, in which the host clears RXV and DERR. -/
def clearAtDispatch : State :=
  { lastStopDue with
    st := { lastStopDue.st with flags := { rxv := true, txs := true, derr := true, cerr := true } } }.withInputs
    [{ evt := 0x02, adc := 0, rnd := 0, host := some 0x80000A }]

/-- There RXV stays set, for the dispatch wins; DERR is cleared, TXS is as it was, and the dispatch pulse comes alone. -/
theorem raisedCauseWins_applies :
    ∃ t, step clearAtDispatch = .next t ∧ t.st.flags.rxv = true ∧ t.st.flags.derr = false ∧ t.st.flags.txs = true
      ∧ t.st.dispPulse = true ∧ t.st.txsPulse = false := by
  have goes : step clearAtDispatch = .next _ := rfl
  have host : decodeHost clearAtDispatch.nextInput.host = .wrStatus 0b0101 := by decide
  have dispatched : causeRaised clearAtDispatch clearAtDispatch.nextInput .frameDispatched := ⟨rfl, rfl, by decide⟩
  have noEstimate : ¬causeRaised clearAtDispatch clearAtDispatch.nextInput .estimatorError := by
    simp [causeRaised, host]
  have noSend : ¬causeRaised clearAtDispatch clearAtDispatch.nextInput .transmitSuccess := fun ⟨sending, _⟩ => nomatch sending
  obtain ⟨flags, disp, txs⟩ := raisedCauseWins _ _ goes rfl
  refine ⟨_, goes, (flags .frameDispatched).1 dispatched, ((flags .estimatorError).2 noEstimate).1 ⟨_, host, rfl⟩, ?_,
    disp.2 dispatched, Bool.eq_false_of_not_eq_true fun pulse => noSend (txs.1 pulse)⟩
  refine (((flags .transmitSuccess).2 noSend).2 fun ⟨clr, host', bit⟩ => ?_).trans rfl
  cases host.symm.trans host'
  exact Bool.false_ne_true bit

/-- The same cycle leaves TXS set, which the host does not clear. -/
theorem flagsAreSticky_applies : ∃ t, step clearAtDispatch = .next t ∧ t.st.flags.txs = true := by
  have goes : step clearAtDispatch = .next _ := rfl
  have host : decodeHost clearAtDispatch.nextInput.host = .wrStatus 0b0101 := by decide
  refine ⟨_, goes, flagsAreSticky _ _ .transmitSuccess goes rfl rfl fun clr host' => ?_⟩
  cases host.symm.trans host'
  rfl

end Sys2Proof.Machine
end

section
/-! Every cycle from a good state completes (30_encoding.md R84; 60_exceptions.md R238): the one fault of the model is a stop bit past
the frame buffer, and a good state's `rx_idx`, which a timeout can only clear, is inside it (10_state.md R23; log 10). -/

namespace Sys2Proof.Machine

variable {c : CycleInput} {s : State}

/-- Where `rx_idx` is inside the buffer, the cycle's edge is of some row. -/
theorem cycleRow_ne_outOfRange (hidx : s.rxd.idx.toNat ≤ 11) : cycleRow c s ≠ .stopOutOfRange := by
  unfold cycleRow
  split
  · exact edgeKind_ne_outOfRange hidx
  · decide

/-- A reset cycle completes, whatever the state (R261). -/
theorem step_completes_of_inReset (legal : paramsLegal s.params = true) (hr : inReset s.nextInput = true) :
    ∃ t, step s = .next t :=
  ⟨_, step_eq_next_iff.2 ⟨legal, _, runCycle_of_inReset hr, rfl⟩⟩

/-- Settles O59: RESET always completes, and any other cycle does unless its edge, which meets RXD after the timeout, is past the
buffer. -/
theorem goodStatesNeverStop : Obligations.GoodStatesNeverStop := by
  intro s inv
  cases hr : inReset s.nextInput with
  | true => exact step_completes_of_inReset inv.params hr
  | false =>
    have received : RxdInv _ (s.afterRead s.nextInput).afterTimeout.rxd :=
      (receiving_afterTimeout (s := s.afterRead s.nextInput) inv.rxd).rxd
    exact step_completes inv.params hr (cycleRow_ne_outOfRange received.idx)

/-- At the bound on `rx_idx`, the last stop bit of a frame, a cycle completes whatever its inputs are. -/
theorem goodStatesNeverStop_applies (c : CycleInput) : ∃ t, step (lastStopDue.withInputs [c]) = .next t :=
  have reset := resetStateIsGood.1
  have rxd : RxdInv Config.suggested lastStopDue.rxd :=
    { busy := rfl
      run := rfl
      stopped := nofun
      counting := fun _ => by decide
      bounded := fun _ => by decide
      idx := by decide
      gain := rfl }
  goodStatesNeverStop _ ⟨reset.params, rxd, reset.txb, reset.st, reset.cyc⟩

end Sys2Proof.Machine
end

section
/-! RESET (70_reset_and_hazards.md R260, R261; 10_state.md R53): the values it leaves, and a cycle that does it. -/

namespace Sys2Proof.Machine

variable {s : State}

/-- A reset cycle is the start of the cycle, the host read, RESET and the end of the cycle (R261). -/
theorem step_of_inReset (legal : paramsLegal s.params = true) (hr : inReset s.nextInput = true) :
    step s = andThen (exec .reset (s.afterRead s.nextInput)) fun t => .next t.endCycle := by
  rw [step, if_pos legal, runCycle_of_inReset hr]

/-- Settles O55: RESET replaces every unit's state by the initial one, whose buffers and tables are filled with 0. -/
theorem resetValues : Obligations.ResetValues := by
  intro s
  refine ⟨_, rfl, rfl, rfl, rfl, rfl, rfl, rfl, rfl, rfl, rfl, rfl, fun i => ?rxBuf, fun i => ?rxoFrame, rfl, rfl, rfl,
    fun i => ⟨?calHigh, ?calLow⟩, rfl, rfl, rfl, rfl, rfl, rfl, rfl, rfl, fun c => ?flag, rfl, rfl, rfl⟩
  case flag => cases c <;> rfl
  all_goals exact Vector.getElem_replicate i.isLt

/-- Settles O56: of the state before it RESET keeps the parameters, the port as the read of step 1 left it, and the environment. -/
theorem resetCycleOverrides : Obligations.ResetCycleOverrides :=
  fun _ legal hr => step_of_inReset legal hr

/-- A reset cycle at the last stop bit of a good frame, with every event and a read of RX_CNT. -/
theorem resetCycleOverrides_applies :
    ∃ t, step (lastStopDue.withInputs [{ evt := 0xFF, adc := 0, rnd := 0, host := some 0x0D0000 }]) = .next t
      ∧ t.rxd = State.reset.rxd ∧ t.rxo = State.reset.rxo ∧ t.st = State.reset.st ∧ t.hRdata = lastStopDue.rxd.cnt :=
  ⟨_, resetCycleOverrides _ (by decide) (by decide), rfl, rfl, rfl, by decide⟩

end Sys2Proof.Machine
end

section
/-! The watchdog as a liveness bound (70_reset_and_hazards.md R273; 40_rx_decoder.md R112, R126): without an edge the counter runs up
to `P_TIMEOUT`, and the cycle after resets RXD. -/

namespace Sys2Proof.Machine

variable {i : Instr} {s t : State} {c : CycleInput}

/-- The host's operations leave the inputs to come alone; a draw of `dist_out` is all they take of the environment (R188). -/
theorem execHost_schedule (hi : isHostOp i = true) (h : exec i s = .next t) : t.env.schedule = s.env.schedule := by
  cases i with
  | distEst | distEstRx => cases h; unfold State.putEstimate; split <;> rfl
  | _ => first | (cases hi; done) | (cases h; rfl)

/-- TXB's operations leave the environment alone. -/
theorem execTx_env (hi : isTxOp i = true) (h : exec i s = .next t) : t.env = s.env := by
  cases i with
  | tick =>
    have h' : execTick s = .next t := h
    unfold execTick execTxCompare at h'
    split_ifs at h'
    all_goals cases h'; rfl
  | txCompare | rspFrame | rspNone | doneOk | doneFail =>
    cases h
    split
    all_goals rfl
  | runEligible => cases h; rfl
  | _ => cases hi

/-- RXD's operations leave the environment alone. -/
theorem execRx_env (hi : isRxOp i = true) (h : exec i s = .next t) : t.env = s.env := by
  rcases execRx_cases hi h with rfl | rfl | ⟨adc, he⟩
  · rfl
  · rfl
  · rw [edgeEffect_of_exec_edge he]
    exact (edgeEffect_leavesTxb adc (edgeKind s) s).env

/-- No operation takes an input; the start of a cycle does. -/
theorem exec_schedule (h : exec i s = .next t) : t.env.schedule = s.env.schedule := by
  rcases instr_unit i with rfl | hi | hi | hi
  · cases h; rfl
  · exact execHost_schedule hi h
  · exact congrArg Env.schedule (execTx_env hi h)
  · exact congrArg Env.schedule (execRx_env hi h)

/-- A step takes one cycle's inputs. -/
theorem step_schedule (h : step s = .next t) : t.env.schedule = s.env.schedule.tail := by
  obtain ⟨_, w, hw, rfl⟩ := step_eq_next_iff.1 h
  exact runCycle_keeps (t := w) (P := (·.env.schedule = s.env.schedule.tail)) rfl
    (fun _ _ _ keep he => (exec_schedule he).trans keep)
    (fun u keep => (congrArg Env.schedule u.countRx_env).trans keep) hw

/-- A step leaves the parameters (R8). -/
theorem step_params (h : step s = .next t) : t.params = s.params := by
  obtain ⟨_, w, hw, rfl⟩ := step_eq_next_iff.1 h
  exact runCycle_keeps (t := w) (P := (·.params = s.params)) rfl (fun _ _ _ keep he => (exec_params he).trans keep)
    (fun u keep => u.countRx_params.trans keep) hw

/-- A quiet cycle has neither reset nor edge (R273). -/
theorem quietInput_iff : quietInput c = true ↔ inReset c = false ∧ c.evt.getLsbD 1 = false := by
  simp [quietInput, inReset]

/-- In a quiet cycle RXD is what the timeout and the counter make of it (R112, R126). -/
theorem step_rxd_of_quiet (h : step s = .next t) (quiet : quietInput s.nextInput = true) :
    t.rxd = (s.afterRead s.nextInput).afterTimeout.countRx.rxd := by
  obtain ⟨noReset, noEdge⟩ := quietInput_iff.1 quiet
  have row : cycleRow s.nextInput (s.afterRead s.nextInput).afterTimeout = .drop :=
    if_neg (ne_true_of_eq_false noEdge)
  rw [step_rxd h noReset, State.rxOutcome, row]
  rfl

/-- A quiet cycle in which the watchdog has expired resets RXD (R112). -/
theorem step_rxd_of_quiet_due (h : step s = .next t) (quiet : quietInput s.nextInput = true)
    (due : timeoutDue s = true) : t.rxd = s.rxReset.rxd := by
  have due' : timeoutDue (s.afterRead s.nextInput) = true := due
  rw [step_rxd_of_quiet h quiet, afterTimeout_of_due due']
  rfl

/-- A quiet cycle in which the watchdog runs and has not expired counts (R126). -/
theorem step_rxd_of_quiet_running (h : step s = .next t) (quiet : quietInput s.nextInput = true)
    (due : timeoutDue s = false) (run : s.rxd.run = true) : t.rxd = { s.rxd with cnt := s.rxd.cnt + 1 } := by
  have due' : timeoutDue (s.afterRead s.nextInput) = false := due
  rw [step_rxd_of_quiet h quiet, afterTimeout_of_not_due due', State.countRx_rxd]
  exact if_pos (Bool.and_eq_true_iff.2 ⟨run, rfl⟩)

/-- Before the watchdog expires, a good state's counter is below `P_TIMEOUT`, and has room for one more. -/
theorem State.Inv.cnt_lt_timeout (inv : s.Inv) (run : s.rxd.run = true) (due : timeoutDue s = false) :
    s.rxd.cnt.toNat < s.params.timeout ∧ (s.rxd.cnt + 1).toNat = s.rxd.cnt.toNat + 1 := by
  obtain ⟨_, ⟨_, fits⟩, _⟩ := r10_of_paramsLegal inv.params
  have below : s.rxd.cnt.toNat < s.params.timeout :=
    Nat.lt_of_le_of_ne (inv.rxd.bounded run) fun expired =>
      Bool.false_ne_true (due.symm.trans (timeoutDue_iff.2 ⟨run, expired⟩))
  exact ⟨below, BitVec.toNat_add_of_lt (by simp; omega)⟩

/-- Settles O24, by induction on the inputs: a cycle in which the watchdog has expired is the last, any other brings the counter one
nearer to `P_TIMEOUT`. -/
theorem watchdogReturnsToIdle : Obligations.WatchdogReturnsToIdle := by
  intro s l rest inv run quiet len sched
  induction l generalizing s with
  | nil => cases len
  | cons c l ih =>
    have next : s.nextInput = c := by
      rw [State.nextInput, sched]
      rfl
    have quietNow : quietInput s.nextInput = true := next ▸ quiet c List.mem_cons_self
    obtain ⟨u, goes⟩ := goodStatesNeverStop s inv
    rw [List.length_cons] at len ⊢
    rw [run_succ_of_step goes]
    cases due : timeoutDue s with
    | true =>
      obtain ⟨_, expired⟩ := timeoutDue_iff.1 due
      have last : l.length = 0 := by omega
      rw [last]
      refine ⟨u, rfl, ?_⟩
      rw [step_rxd_of_quiet_due goes quietNow due]
      exact ⟨rfl, rfl, rfl, rfl⟩
    | false =>
      have rxd := step_rxd_of_quiet_running goes quietNow due run
      obtain ⟨below, cnt⟩ := inv.cnt_lt_timeout run due
      refine ih u (stepKeepsGoodStates s u inv goes) (rxd ▸ run) (fun d hd => quiet d (List.mem_cons_of_mem _ hd)) ?_ ?_
      · rw [step_params goes, rxd, cnt]
        omega
      · rw [step_schedule goes, sched]
        rfl

/-- The watchdog one short of its compare value inside a payload byte: two quiet cycles, with a tick and a host write in them. -/
theorem watchdogReturnsToIdle_applies :
    ∃ t, Sys2Proof.core.run 2
        ((insideByte false 2958 0 11).withInputs [tickInput, { CycleInput.idle with host := some 0x820001 }]) = .next t
      ∧ t.rxd.await = true ∧ t.rxd.busy = false := by
  have reset := resetStateIsGood.1
  have rxd : RxdInv Config.suggested (insideByte false 2958 0 11).rxd :=
    { busy := rfl
      run := rfl
      stopped := nofun
      counting := fun _ => by decide
      bounded := fun _ => by decide
      idx := by decide
      gain := rfl }
  have good (l : List CycleInput) : ((insideByte false 2958 0 11).withInputs l).Inv :=
    ⟨reset.params, rxd, reset.txb, reset.st, reset.cyc⟩
  obtain ⟨t, run, await, _, busy, _⟩ :=
    watchdogReturnsToIdle _ [tickInput, { CycleInput.idle with host := some 0x820001 }] [] (good _) rfl (by decide)
      (by decide) rfl
  exact ⟨t, run, await, busy⟩

end Sys2Proof.Machine
end

section
/-! A step as the operations its inputs present (70_reset_and_hazards.md R266; 30_encoding.md R97): the phases of a cycle without
reset in order, then the cycles in which most of them are empty. -/

namespace Sys2Proof.Machine

variable {i : Instr} {s : State} {c : CycleInput}

section phases

/-- A list of one operation is that operation. -/
theorem runOps_singleton (i : Instr) (s : State) : runOps [i] s = exec i s :=
  runOps_toList (some i) s

/-- A choice of operations a cycle may lack. -/
theorem runOps_ite (p : Prop) [Decidable p] (o o' : Option Instr) (s : State) :
    runOps (if p then o.toList else o'.toList) s = runOption (if p then o else o') s := by
  split
  · exact runOps_toList o s
  · exact runOps_toList o' s

/-- Before the watchdog has expired there is no RX_TIMEOUT (R112). -/
theorem timeoutOps_of_not_due (h : timeoutDue s = false) : timeoutOps s = [] := if_neg (ne_true_of_eq_false h)

/-- Step 1 of R266. -/
theorem runOps_readOps_eq (c : CycleInput) (u : State) :
    runOps (readOps c) u = runOption (if isHostRead (decodeHost c.host) then some (decodeHost c.host) else none) u :=
  runOps_ite _ (some _) none u

/-- Step 2 of R266. -/
theorem runOps_timeoutOps_eq (s u : State) :
    runOps (timeoutOps s) u = runOption (if timeoutDue s then some .rxTimeout else none) u :=
  runOps_ite _ (some _) none u

/-- Step 3 of R266. -/
theorem runOps_edgeOps_eq (hr : inReset c = false) (u : State) :
    runOps (edgeOps c) u = runOption (if c.evt.getLsbD 1 then some (.edge c.adc) else none) u := by
  rw [edgeOps_eq hr]
  exact runOps_ite _ (some _) none u

/-- The level of R266 step 5 (log 16). -/
theorem runOps_levelOps_eq (hr : inReset c = false) (u : State) :
    runOps (levelOps c) u = runOption (if c.evt.getLsbD 7 then some .runEligible else none) u := by
  rw [levelOps_eq hr]
  exact runOps_ite _ (some _) none u

/-- Step 6 of R266. -/
theorem runOps_writeOps_eq (c : CycleInput) (u : State) :
    runOps (writeOps c) u = runOption (if isHostRead (decodeHost c.host) then none else some (decodeHost c.host)) u :=
  runOps_ite _ none (some _) u

/-- The six phases of a cycle without reset, each on what the one before left, RX_TIMEOUT and TXB's operation chosen from `S`. -/
theorem step_eq_phases (legal : paramsLegal s.params = true) (hr : inReset s.nextInput = false) :
    step s =
      andThen (runOps (readOps s.nextInput) s.beginCycle) fun s1 =>
      andThen (runOps (timeoutOps s) s1) fun s2 =>
      andThen (runOps (edgeOps s.nextInput) s2) fun s3 =>
      andThen (runOps (levelOps s.nextInput) s3.countRx) fun s4 =>
      andThen (runOps (txOps s.nextInput s) s4) fun s5 =>
      andThen (runOps (writeOps s.nextInput) s5) fun t => .next t.endCycle := by
  rw [step, if_pos legal, runCycle]
  simp only [hr, Bool.false_eq_true, if_false, rxPhase, txHostPhase, runOps_append, andThen_assoc, andThen_next]
  rfl

end phases

section noEvent

/-- The event vector 0 presents no event (R85). -/
theorem events_eq_nil (h : c.evt = 0) : events c = [] := by
  rw [events, h]
  rfl

/-- Without an event a step is the host read, the timeout, the counter and the host write. -/
theorem step_of_noEvent (legal : paramsLegal s.params = true) (noEvent : s.nextInput.evt = 0) :
    step s =
      andThen (runOps (readOps s.nextInput) s.beginCycle) fun s1 =>
      andThen (runOps (timeoutOps s) s1) fun s2 =>
      andThen (runOps (writeOps s.nextInput) s2.countRx) fun t => .next t.endCycle := by
  have hr : inReset s.nextInput = false := by
    rw [inReset, noEvent]
    rfl
  rw [step_eq_phases legal hr]
  simp only [edgeOps, levelOps, txOps, events_eq_nil noEvent, List.filter_nil, List.filterMap_nil, runOps_nil, andThen_next]

/-- Settles O7: of the phases without an event the host's access, before or after the counter, is the only one left. -/
theorem stepRunsHostAccess : Obligations.StepRunsHostAccess := by
  refine ⟨fun s legal noEvent due => ?_, fun s w => ⟨rfl, rfl⟩⟩
  rw [step_of_noEvent legal noEvent, timeoutOps_of_not_due due]
  simp only [readOps, writeOps, runOps_nil, andThen_next]
  refine ⟨fun read => ?_, fun write => ?_⟩
  · simp only [if_pos read, runOps_singleton, runOps_nil, andThen_next]
  · simp only [write, Bool.false_eq_true, if_false, runOps_singleton, runOps_nil, andThen_next]

/-- A read of CRC_ACC, and the command CRC_INIT. -/
theorem stepRunsHostAccess_applies :
    (∃ t, step (State.reset.withFetchWord 24 0x040000) = .next t ∧ t.hRdata = 0xFFFF)
    ∧ ∃ t, step ({ State.reset with crcAcc := 0 }.withFetchWord 24 0x820001) = .next t ∧ t.crcAcc = 0xFFFF := by
  obtain ⟨read, _⟩ := stepRunsHostAccess.1 (State.reset.withFetchWord 24 0x040000) (by decide) rfl rfl
  obtain ⟨_, write⟩ := stepRunsHostAccess.1 ({ State.reset with crcAcc := 0 }.withFetchWord 24 0x820001) (by decide) rfl rfl
  exact ⟨⟨_, read (by decide), by decide⟩, ⟨_, write (by decide), by decide⟩⟩

end noEvent

section oneEvent

/-- Without a host word the host read leaves the start of the cycle as it is: `h_rdata` is 0 there (R61, R224). -/
theorem runOps_readOps_of_idle (idle : c.host = none) (s : State) : runOps (readOps c) s.beginCycle = .next s.beginCycle := by
  rw [runOps_readOps, hostReadValue, idle]
  rfl

/-- Without a host word nothing is written. -/
theorem writeOps_of_idle (idle : c.host = none) : writeOps c = [] := by
  rw [writeOps, idle]
  rfl

/-- In a cycle with events alone a step is the edge, the counter, the level and TXB's operation. -/
theorem step_of_eventsAlone (legal : paramsLegal s.params = true) (hr : inReset s.nextInput = false)
    (idle : s.nextInput.host = none) (due : timeoutDue s = false) :
    step s =
      andThen (runOps (edgeOps s.nextInput) s.beginCycle) fun s3 =>
      andThen (runOps (levelOps s.nextInput) s3.countRx) fun s4 =>
      andThen (runOps (txOps s.nextInput s) s4) fun t => .next t.endCycle := by
  rw [step_eq_phases legal hr, runOps_readOps_of_idle idle, timeoutOps_of_not_due due, writeOps_of_idle idle]
  rfl

/-- What a cycle without reset presents (R85). -/
theorem mem_events_cases (hr : inReset c = false) (h : i ∈ events c) :
    i = .edge c.adc ∨ i = .runEligible ∨ i ∈ [.tick, .rspFrame, .rspNone, .doneOk, .doneFail c.rnd] := by
  obtain ⟨_, presents⟩ := eventVectorDecodes c.evt c.adc c.rnd
  rcases (presents hr i).1 h with ⟨rfl, _⟩ | ⟨rfl, _⟩ | ⟨rfl, _⟩ | ⟨rfl, _⟩ | ⟨rfl, _⟩ | ⟨rfl, _⟩ | ⟨rfl, _⟩ <;> simp

/-- Of one event TXB runs what the state selects. -/
theorem txOps_of_events (alone : events c = [i]) : txOps c s = (selectTx s i).toList := by
  rw [txOps, alone, List.filterMap_cons]
  cases selectTx s i <;> rfl

/-- An edge and the level are no events of TXB's states (R97). -/
theorem selectTx_eq_none (h : (∃ adc, i = .edge adc) ∨ i = .runEligible) : selectTx s i = none := by
  unfold selectTx
  rcases h with ⟨adc, rfl⟩ | rfl <;> cases s.txb.state <;> rfl

end oneEvent

/-- Settles O8: of one event's phases its own is left; of a timeout without inputs RX_TIMEOUT is; and in general each phase is the
operation its inputs present. -/
theorem stepRunsEventOperation : Obligations.StepRunsEventOperation := by
  refine ⟨fun s i legal idle due alone => ?event, fun s legal noEvent idle due => ?timeout, fun s legal hr => ?cycle⟩
  case event =>
    change events s.nextInput = [i] at alone
    cases hr : inReset s.nextInput with
    | true =>
      obtain rfl : Instr.reset = i := List.singleton_inj.1 ((events_eq_reset hr).symm.trans alone)
      rw [step_of_inReset legal hr, State.afterRead, hostReadValue, idle]
      rfl
    | false =>
      have phases := step_of_eventsAlone legal hr idle due
      simp only [edgeOps, levelOps, txOps_of_events alone, alone, runOps_toList] at phases
      rcases mem_events_cases hr (alone ▸ List.mem_singleton_self i) with rfl | rfl | tx
      case inl =>
        rw [phases, selectTx_eq_none (.inl ⟨_, rfl⟩), andThen_assoc]
        exact congrArg (andThen · _) (runOps_singleton _ _)
      case inr.inl =>
        rw [phases, selectTx_eq_none (.inr rfl)]
        rfl
      case inr.inr =>
        simp only [List.mem_cons, List.not_mem_nil, or_false] at tx
        rcases tx with rfl | rfl | rfl | rfl | rfl
        all_goals
          rw [phases]
          dsimp only
          generalize selectTx s _ = selected
          cases selected <;> rfl
  case timeout =>
    rw [step_of_noEvent legal noEvent, runOps_readOps_of_idle idle, writeOps_of_idle idle, timeoutOps, if_pos due]
    rfl
  case cycle =>
    rw [step_eq_phases legal hr]
    simp only [runOps_readOps_eq, runOps_timeoutOps_eq, runOps_edgeOps_eq hr, runOps_levelOps_eq hr, txOps_eq hr, runOps_toList,
      runOps_writeOps_eq]

/-- An edge and a tick alone, a timeout alone, and a timeout with an edge, a tick, the level and a host command. -/
theorem stepRunsEventOperation_applies :
    (∃ t, step (State.reset.withInputs [eventInput 0x02 612 0]) = .next t ∧ t.rxd.cnt = 1 ∧ t.rxd.hg = 612)
    ∧ (∃ t, step (State.reset.withInputs [eventInput 0x04 0 0]) = .next t ∧ t.txb.cnt = 1)
    ∧ (∃ t, step ((insideByte true 2959 1 0).withInputs [CycleInput.idle]) = .next t ∧ t.rxd.run = false)
    ∧ ∃ t, step ((insideByte true 2959 1 0).withInputs [{ evt := 0x86, adc := 612, rnd := 0, host := some 0x820001 }]) = .next t
      ∧ t.rxd.cnt = 1 ∧ t.txb.cnt = 1 ∧ t.crcAcc = 0xFFFF := by
  obtain ⟨event, timeout, cycle⟩ := stepRunsEventOperation
  exact ⟨⟨_, event _ (.edge 612) (by decide) rfl rfl rfl, rfl, rfl⟩, ⟨_, event _ .tick (by decide) rfl rfl rfl, rfl⟩,
    ⟨_, timeout _ (by decide) rfl rfl (by decide), rfl⟩, ⟨_, cycle _ (by decide) rfl, rfl, rfl, rfl⟩⟩

end Sys2Proof.Machine
end
